-- ==== Sys2Proof/Word.lean ====
section
/-! DEFINITION. The two widths of the Y90 (R8): a byte of 8 bits and a word of 16 bits.
Both are unsigned bit vectors (R12); signed readings are named where a rule asks for them. -/

namespace Sys2Proof

/-- An 8-bit value: a general register, a memory byte, an I/O datum (R8). -/
abbrev Byte := BitVec 8

/-- A 16-bit value: a register pair, IX, IY, SP, PC, a logical address, a port address (R8). -/
abbrev Word := BitVec 16

end Sys2Proof
end

