-- ==== Sys2Proof/Machine/Bits.lean ====
section
/-! DEFINITION. Bit fields, byte order, sign extension and parity: the notation of R12, R13 and R203. -/

namespace Sys2Proof.Machine

/-- `{hi, lo}` (R12): a word from its two bytes. -/
def mk16 (hi lo : Byte) : Word := hi ++ lo

/-- Bits 15:8 of a word. -/
def hiByte (w : Word) : Byte := w.extractLsb' 8 8

/-- Bits 7:0 of a word. -/
def loByte (w : Word) : Byte := w.extractLsb' 0 8

/-- `sext_16` of R12. -/
def sext16 (b : Byte) : Word := b.signExtend 16

/-- `zext_16` of R12. -/
def zext16 (b : Byte) : Word := b.setWidth 16

/-- `parity` of R12: true when the byte has an even number of 1 bits. -/
def parityEven (b : Byte) : Bool :=
  !(b.getLsbD 0 ^^ b.getLsbD 1 ^^ b.getLsbD 2 ^^ b.getLsbD 3 ^^ b.getLsbD 4 ^^ b.getLsbD 5 ^^
    b.getLsbD 6 ^^ b.getLsbD 7)

/-- Bits 7:4 of a byte. -/
def hiNibble (b : Byte) : BitVec 4 := b.extractLsb' 4 4

/-- Bits 3:0 of a byte. -/
def loNibble (b : Byte) : BitVec 4 := b.extractLsb' 0 4

/-- A byte from its eight bits, bit 7 first. -/
def mkByte (b7 b6 b5 b4 b3 b2 b1 b0 : Bool) : Byte :=
  BitVec.ofBool b7 ++ BitVec.ofBool b6 ++ BitVec.ofBool b5 ++ BitVec.ofBool b4 ++ BitVec.ofBool b3 ++
    BitVec.ofBool b2 ++ BitVec.ofBool b1 ++ BitVec.ofBool b0

end Sys2Proof.Machine
end

