-- ==== Sys2Proof/Config.lean ====
section
/-! DEFINITION. What an implementation of the Y90 fixes: the compile options of R7 and the parameters the
spec leaves open (R11, 92_eei_decisions.md). A value of `Config` stands in the machine's state and no step
changes it, so a statement about every state holds for every choice of every parameter (log 1).
The free values of the spec ("any value" in 93_implementation_defined.md) are two constants without a body. -/

namespace Sys2Proof

/-- `VERSION` of R7: the processor alone, or the processor with the MPU modules. -/
inductive Version where
  | cpu | mpu
deriving DecidableEq, Repr

/-- `CCF_MODE` of R7: the H flag after CCF (R517). -/
inductive CcfMode where
  | z80 | z180
deriving DecidableEq, Repr

/-- `MUL` of R7: the multiplier of MLT, which changes its clock count and nothing else (R520). -/
inductive Multiplier where
  | normal | fast
deriving DecidableEq, Repr

/-- `U53_POLICY` of R109: flag bits 5 and 3 after an instruction that writes a flag. -/
inductive U53Policy where
  | any | keep
deriving DecidableEq, Repr

/-- `ILLEGAL_TRAP_STACKED_PC` of R903. -/
inductive StackedPc where
  | firstByte | secondByte
deriving DecidableEq, Repr

/-- `OTXM_PORT_HIGH` of R780: the upper port byte of OTIM, OTIMR, OTDM, OTDMR. -/
inductive OtxmHigh where
  | zero | regB
deriving DecidableEq, Repr

/-- `BLOCK_OUT_B` of R779: B before or after its decrement on the port address of block output. -/
inductive BlockOutB where
  | before | after
deriving DecidableEq, Repr

/-- `MPU_INSNS_ON_CPU` of R870. -/
inductive MpuOnCpu where
  | illegal | absentEffect
deriving DecidableEq, Repr

/-- `INT_PRIORITY_ORDER` of R932 (also the order of the DMA requests, R940). -/
inductive PriorityOrder where
  | highIndexFirst | lowIndexFirst
deriving DecidableEq, Repr

/-- `WDT_ENABLE_EVENT` of R947. -/
inductive WdtEnableEvent where
  | firstWdres | firstWdarm
deriving DecidableEq, Repr

/-- `DAA_OUTSIDE_TABLE` of R516. -/
inductive DaaOutside where
  | any | z80
deriving DecidableEq, Repr

/-- `WRPROT_REPEAT` of R924. -/
inductive WrprotRepeat where
  | afterIteration | afterInstruction
deriving DecidableEq, Repr

/-- `SLEEP_EXIT_DISABLED` of R922. -/
inductive SleepExit where
  | level | edge
deriving DecidableEq, Repr

/-- `ILLEGAL_TRAP_IFF` of R918. -/
inductive IllegalIff where
  | unchanged | cleared
deriving DecidableEq, Repr

/-- `EI_SHADOW` of R1011. -/
inductive EiShadow where
  | none | oneInstruction
deriving DecidableEq, Repr

/-- The parameters of R7 and R11. `NMI_ADDR` (R10) is an input pin of the state. -/
structure Config where
  version : Version
  ccfMode : CcfMode
  /-- `MUL` of R7; clock counts are not modelled (R1015), so no meaning reads it. -/
  mul : Multiplier
  /-- `DREQ` of R7: `true` for `DREQ_ACC`, the saturating count (R951). -/
  dreqAcc : Bool
  /-- `WAIT` of R7: `true` for `WAIT_ACC` (R951). -/
  waitAcc : Bool
  resetSp : Word
  resetI : Byte
  resetR : Byte
  u53 : U53Policy
  illegalStackedPc : StackedPc
  otxmHigh : OtxmHigh
  blockOutB : BlockOutB
  mpuOnCpu : MpuOnCpu
  intPriority : PriorityOrder
  wdtEnable : WdtEnableEvent
  daaOutside : DaaOutside
  wrprotRepeat : WrprotRepeat
  sleepExit : SleepExit
  /-- `EXSP_IS_STACK_WRITE` of R909. -/
  exspIsStackWrite : Bool
  illegalIff : IllegalIff
  eiShadow : EiShadow
deriving DecidableEq, Repr

/-- The defaults of R7 and 92_eei_decisions.md. -/
def Config.initial : Config where
  version := .cpu
  ccfMode := .z80
  mul := .normal
  dreqAcc := false
  waitAcc := false
  resetSp := 0x0000#16
  resetI := 0x00#8
  resetR := 0x00#8
  u53 := .any
  illegalStackedPc := .firstByte
  otxmHigh := .zero
  blockOutB := .before
  mpuOnCpu := .illegal
  intPriority := .highIndexFirst
  wdtEnable := .firstWdres
  daaOutside := .any
  wrprotRepeat := .afterIteration
  sleepExit := .level
  exspIsStackWrite := true
  illegalIff := .unchanged
  eiShadow := .none

/-- The n-th free bit of a run: nothing is known of it (log 29). -/
opaque Config.freeBit : Nat → Bool

/-- The n-th free byte of a run: nothing is known of it (log 29). -/
opaque Config.freeByte : Nat → Byte

end Sys2Proof
end

