-- ==== Sys2Proof/Syntax.lean ====
section
/-! DEFINITION. The instructions of the Y90: one constructor for each row of spec/opcode_table.json, in its
order. Operands are decoded values (30_encoding.md), never raw encodings. -/

namespace Sys2Proof

/-- The seven 8-bit registers with a register code (R302). -/
inductive R8 where
  | b | c | d | e | h | l | a
deriving DecidableEq, Repr

/-- The word registers of the four tables of R303. Which of them an instruction admits is in WellFormed. -/
inductive Pair where
  | bc | de | hl | sp | af | ix | iy
deriving DecidableEq, Repr

/-- The index register a DD or FD first byte selects (R310). -/
inductive Idx where
  | ix | iy
deriving DecidableEq, Repr

/-- The conditions of R304. -/
inductive Cond where
  | nz | z | nc | c | po | pe | p | m
deriving DecidableEq, Repr

/-- The instructions. Letters: `r`, `q` registers; `p` a word register; `y` IX or IY; `n` an immediate byte;
`d` a displacement byte; `e` the offset byte of a relative jump (R307); `mn` an immediate word or direct
address; `cc` a condition; `b` a bit number; `v` a restart number. -/
inductive Instr where
  -- 8-bit arithmetic and logic (42_arith8.md)
  /-- `ADD A,r`, R504. -/
  | addAR (r : R8)
  /-- `ADD A,n`, R504. -/
  | addAN (n : Byte)
  /-- `ADD A,(HL)`, R504. -/
  | addAM
  /-- `ADD A,(IX+d) / (IY+d)`, R504. -/
  | addAX (y : Idx) (d : Byte)
  /-- `ADC A,r`, R505. -/
  | adcAR (r : R8)
  /-- `ADC A,n`, R505. -/
  | adcAN (n : Byte)
  /-- `ADC A,(HL)`, R505. -/
  | adcAM
  /-- `ADC A,(IX+d) / (IY+d)`, R505. -/
  | adcAX (y : Idx) (d : Byte)
  /-- `SUB A,r`, R506. -/
  | subAR (r : R8)
  /-- `SUB A,n`, R506. -/
  | subAN (n : Byte)
  /-- `SUB A,(HL)`, R506. -/
  | subAM
  /-- `SUB A,(IX+d) / (IY+d)`, R506. -/
  | subAX (y : Idx) (d : Byte)
  /-- `SBC A,r`, R507. -/
  | sbcAR (r : R8)
  /-- `SBC A,n`, R507. -/
  | sbcAN (n : Byte)
  /-- `SBC A,(HL)`, R507. -/
  | sbcAM
  /-- `SBC A,(IX+d) / (IY+d)`, R507. -/
  | sbcAX (y : Idx) (d : Byte)
  /-- `AND A,r`, R508. -/
  | andAR (r : R8)
  /-- `AND A,n`, R508. -/
  | andAN (n : Byte)
  /-- `AND A,(HL)`, R508. -/
  | andAM
  /-- `AND A,(IX+d) / (IY+d)`, R508. -/
  | andAX (y : Idx) (d : Byte)
  /-- `XOR A,r`, R510. -/
  | xorAR (r : R8)
  /-- `XOR A,n`, R510. -/
  | xorAN (n : Byte)
  /-- `XOR A,(HL)`, R510. -/
  | xorAM
  /-- `XOR A,(IX+d) / (IY+d)`, R510. -/
  | xorAX (y : Idx) (d : Byte)
  /-- `OR A,r`, R509. -/
  | orAR (r : R8)
  /-- `OR A,n`, R509. -/
  | orAN (n : Byte)
  /-- `OR A,(HL)`, R509. -/
  | orAM
  /-- `OR A,(IX+d) / (IY+d)`, R509. -/
  | orAX (y : Idx) (d : Byte)
  /-- `CP A,r`, R511. -/
  | cpAR (r : R8)
  /-- `CP A,n`, R511. -/
  | cpAN (n : Byte)
  /-- `CP A,(HL)`, R511. -/
  | cpAM
  /-- `CP A,(IX+d) / (IY+d)`, R511. -/
  | cpAX (y : Idx) (d : Byte)
  /-- `INC r`, R512. -/
  | incR (r : R8)
  /-- `INC (HL)`, R512. -/
  | incM
  /-- `INC (IX+d) / (IY+d)`, R512. -/
  | incX (y : Idx) (d : Byte)
  /-- `DEC r`, R513. -/
  | decR (r : R8)
  /-- `DEC (HL)`, R513. -/
  | decM
  /-- `DEC (IX+d) / (IY+d)`, R513. -/
  | decX (y : Idx) (d : Byte)
  /-- `NEG`, R514. -/
  | neg
  /-- `CPL`, R515. -/
  | cpl
  /-- `DAA`, R516. -/
  | daa
  /-- `CCF`, R517. -/
  | ccf
  /-- `SCF`, R518. -/
  | scf
  /-- `TST r`, R519. -/
  | tstR (r : R8)
  /-- `TST n`, R519. -/
  | tstN (n : Byte)
  /-- `TST (HL)`, R519. -/
  | tstM
  /-- `MLT ss`, R520. -/
  | mltSs (p : Pair)
  -- 16-bit arithmetic (43_arith16.md)
  /-- `ADD HL,ss`, R560. -/
  | addHlSs (p : Pair)
  /-- `ADD IX,xx`, R561. -/
  | addIxXx (p : Pair)
  /-- `ADD IY,yy`, R561. -/
  | addIyYy (p : Pair)
  /-- `ADC HL,ss`, R562. -/
  | adcHlSs (p : Pair)
  /-- `SBC HL,ss`, R563. -/
  | sbcHlSs (p : Pair)
  /-- `INC ss`, R564. -/
  | incSs (p : Pair)
  /-- `INC IX / IY`, R565. -/
  | incXy (y : Idx)
  /-- `DEC ss`, R566. -/
  | decSs (p : Pair)
  /-- `DEC IX / IY`, R567. -/
  | decXy (y : Idx)
  -- loads, stack, exchanges (40_load_exchange.md)
  /-- `LD r,r'`, R400. -/
  | ldRR (r : R8) (q : R8)
  /-- `LD r,n`, R401. -/
  | ldRN (r : R8) (n : Byte)
  /-- `LD r,(HL)`, R402. -/
  | ldRM (r : R8)
  /-- `LD r,(IX+d) / (IY+d)`, R403. -/
  | ldRX (r : R8) (y : Idx) (d : Byte)
  /-- `LD (HL),r`, R404. -/
  | ldMR (r : R8)
  /-- `LD (IX+d),r / (IY+d),r`, R405. -/
  | ldXR (y : Idx) (d : Byte) (r : R8)
  /-- `LD (HL),n`, R406. -/
  | ldMN (n : Byte)
  /-- `LD (IX+d),n / (IY+d),n`, R407. -/
  | ldXN (y : Idx) (d : Byte) (n : Byte)
  /-- `LD A,(BC)`, R408. -/
  | ldABc
  /-- `LD A,(DE)`, R408. -/
  | ldADe
  /-- `LD A,(mn)`, R409. -/
  | ldAMn (mn : Word)
  /-- `LD (BC),A`, R410. -/
  | ldBcA
  /-- `LD (DE),A`, R410. -/
  | ldDeA
  /-- `LD (mn),A`, R411. -/
  | ldMnA (mn : Word)
  /-- `LD A,I`, R412. -/
  | ldAI
  /-- `LD A,R`, R412. -/
  | ldAR
  /-- `LD I,A`, R413. -/
  | ldIA
  /-- `LD R,A`, R413. -/
  | ldRA
  /-- `LD dd,mn`, R414. -/
  | ldDdMn (p : Pair) (mn : Word)
  /-- `LD IX,mn / IY,mn`, R415. -/
  | ldXyMn (y : Idx) (mn : Word)
  /-- `LD HL,(mn)`, R416. -/
  | ldHlFromMn (mn : Word)
  /-- `LD dd,(mn)`, R417. -/
  | ldDdFromMn (p : Pair) (mn : Word)
  /-- `LD IX,(mn) / IY,(mn)`, R418. -/
  | ldXyFromMn (y : Idx) (mn : Word)
  /-- `LD (mn),HL`, R419. -/
  | ldMnHl (mn : Word)
  /-- `LD (mn),ss`, R420. -/
  | ldMnSs (mn : Word) (p : Pair)
  /-- `LD (mn),IX / (mn),IY`, R421. -/
  | ldMnXy (mn : Word) (y : Idx)
  /-- `LD SP,HL`, R422. -/
  | ldSpHl
  /-- `LD SP,IX / SP,IY`, R423. -/
  | ldSpXy (y : Idx)
  /-- `PUSH tt`, R424. -/
  | pushTt (p : Pair)
  /-- `PUSH IX / IY`, R425. -/
  | pushXy (y : Idx)
  /-- `POP tt`, R426. -/
  | popTt (p : Pair)
  /-- `POP IX / IY`, R427. -/
  | popXy (y : Idx)
  /-- `EX DE,HL`, R428. -/
  | exDeHl
  /-- `EX AF,AF'`, R429. -/
  | exAfAf
  /-- `EXX`, R430. -/
  | exx
  /-- `EX (SP),HL`, R431. -/
  | exSpHl
  /-- `EX (SP),IX / (SP),IY`, R432. -/
  | exSpXy (y : Idx)
  -- block transfer and search (41_block.md)
  /-- `LDI`, R450. -/
  | ldi
  /-- `LDIR`, R451. -/
  | ldir
  /-- `LDD`, R452. -/
  | ldd
  /-- `LDDR`, R453. -/
  | lddr
  /-- `CPI`, R454. -/
  | cpi
  /-- `CPIR`, R455. -/
  | cpir
  /-- `CPD`, R456. -/
  | cpd
  /-- `CPDR`, R457. -/
  | cpdr
  -- rotates, shifts, bits (44_rotate_bit.md)
  /-- `RLCA`, R600. -/
  | rlca
  /-- `RLA`, R601. -/
  | rla
  /-- `RRCA`, R602. -/
  | rrca
  /-- `RRA`, R603. -/
  | rra
  /-- `RLC r`, R605. -/
  | rlcR (r : R8)
  /-- `RLC (HL)`, R605. -/
  | rlcM
  /-- `RLC (IX+d) / (IY+d)`, R605. -/
  | rlcX (y : Idx) (d : Byte)
  /-- `RRC r`, R607. -/
  | rrcR (r : R8)
  /-- `RRC (HL)`, R607. -/
  | rrcM
  /-- `RRC (IX+d) / (IY+d)`, R607. -/
  | rrcX (y : Idx) (d : Byte)
  /-- `RL r`, R606. -/
  | rlR (r : R8)
  /-- `RL (HL)`, R606. -/
  | rlM
  /-- `RL (IX+d) / (IY+d)`, R606. -/
  | rlX (y : Idx) (d : Byte)
  /-- `RR r`, R608. -/
  | rrR (r : R8)
  /-- `RR (HL)`, R608. -/
  | rrM
  /-- `RR (IX+d) / (IY+d)`, R608. -/
  | rrX (y : Idx) (d : Byte)
  /-- `SLA r`, R609. -/
  | slaR (r : R8)
  /-- `SLA (HL)`, R609. -/
  | slaM
  /-- `SLA (IX+d) / (IY+d)`, R609. -/
  | slaX (y : Idx) (d : Byte)
  /-- `SRA r`, R610. -/
  | sraR (r : R8)
  /-- `SRA (HL)`, R610. -/
  | sraM
  /-- `SRA (IX+d) / (IY+d)`, R610. -/
  | sraX (y : Idx) (d : Byte)
  /-- `SRL r`, R611. -/
  | srlR (r : R8)
  /-- `SRL (HL)`, R611. -/
  | srlM
  /-- `SRL (IX+d) / (IY+d)`, R611. -/
  | srlX (y : Idx) (d : Byte)
  /-- `RLD`, R612. -/
  | rld
  /-- `RRD`, R613. -/
  | rrd
  /-- `BIT b,r`, R614. -/
  | bitR (b : BitVec 3) (r : R8)
  /-- `BIT b,(HL)`, R614. -/
  | bitM (b : BitVec 3)
  /-- `BIT b,(IX+d) / (IY+d)`, R614. -/
  | bitX (b : BitVec 3) (y : Idx) (d : Byte)
  /-- `RES b,r`, R616. -/
  | resR (b : BitVec 3) (r : R8)
  /-- `RES b,(HL)`, R616. -/
  | resM (b : BitVec 3)
  /-- `RES b,(IX+d) / (IY+d)`, R616. -/
  | resX (b : BitVec 3) (y : Idx) (d : Byte)
  /-- `SET b,r`, R615. -/
  | setR (b : BitVec 3) (r : R8)
  /-- `SET b,(HL)`, R615. -/
  | setM (b : BitVec 3)
  /-- `SET b,(IX+d) / (IY+d)`, R615. -/
  | setX (b : BitVec 3) (y : Idx) (d : Byte)
  -- control (45_control.md)
  /-- `JP mn`, R701. -/
  | jpMn (mn : Word)
  /-- `JP cc,mn`, R702. -/
  | jpCcMn (cc : Cond) (mn : Word)
  /-- `JP (HL)`, R703. -/
  | jpHl
  /-- `JP (IX) / (IY)`, R703. -/
  | jpXy (y : Idx)
  /-- `JR e`, R704. -/
  | jrE (e : Byte)
  /-- `JR cc,e`, R705. -/
  | jrCcE (cc : Cond) (e : Byte)
  /-- `DJNZ e`, R706. -/
  | djnz (e : Byte)
  /-- `CALL mn`, R707. -/
  | callMn (mn : Word)
  /-- `CALL cc,mn`, R708. -/
  | callCcMn (cc : Cond) (mn : Word)
  /-- `RET`, R709. -/
  | ret
  /-- `RET cc`, R710. -/
  | retCc (cc : Cond)
  /-- `RETI`, R711. -/
  | reti
  /-- `RETN`, R712. -/
  | retn
  /-- `RST v`, R713. -/
  | rst (v : BitVec 3)
  -- input and output (46_io.md)
  /-- `IN A,(n)`, R760. -/
  | inAN (n : Byte)
  /-- `IN r,(C)`, R761. -/
  | inRC (r : R8)
  /-- `IN0 r,(n)`, R762. -/
  | in0RN (r : R8) (n : Byte)
  /-- `OUT (n),A`, R763. -/
  | outNA (n : Byte)
  /-- `OUT (C),r`, R764. -/
  | outCR (r : R8)
  /-- `OUT0 (n),r`, R765. -/
  | out0NR (n : Byte) (r : R8)
  /-- `INI`, R766. -/
  | ini
  /-- `INIR`, R767. -/
  | inir
  /-- `IND`, R768. -/
  | ind
  /-- `INDR`, R769. -/
  | indr
  /-- `OUTI`, R770. -/
  | outi
  /-- `OTIR`, R771. -/
  | otir
  /-- `OUTD`, R772. -/
  | outd
  /-- `OTDR`, R773. -/
  | otdr
  /-- `OTIM`, R774. -/
  | otim
  /-- `OTIMR`, R775. -/
  | otimr
  /-- `OTDM`, R776. -/
  | otdm
  /-- `OTDMR`, R777. -/
  | otdmr
  /-- `TSTIO n`, R778. -/
  | tstioN (n : Byte)
  -- CPU control (47_system.md)
  /-- `NOP`, R830. -/
  | nop
  /-- `HALT`, R831. -/
  | halt
  /-- `SLP`, R832. -/
  | slp
  /-- `DI`, R833. -/
  | di
  /-- `EI`, R834. -/
  | ei
  /-- `IM 0`, R835. -/
  | im0
  /-- `IM 1`, R835. -/
  | im1
  /-- `IM 2`, R835. -/
  | im2
  -- MPU (48_mpu.md)
  /-- `LDM MMU,(HL)`, R860. -/
  | ldmMmu
  /-- `LDM MMUH,(HL)`, R861. -/
  | ldmMmuh
  /-- `LDMS MMU,(HL)`, R862. -/
  | ldmsMmu
  /-- `SWAP`, R863. -/
  | swap
  /-- `LDM (HL),MMU`, R864. -/
  | ldmFromMmu
  /-- `LDM (HL),MMUH`, R865. -/
  | ldmFromMmuh
  /-- `LDM (HL),SYS`, R866. -/
  | ldmFromSys
  /-- `WDARM`, R867. -/
  | wdarm
  /-- `WDRES`, R868. -/
  | wdres
deriving DecidableEq, Repr

end Sys2Proof
end

