-- ==== Sys2Proof/Machine/State.lean ====
section
/-! DEFINITION. The state of the Y90 as plain data (10_state.md), the inputs the platform may give it, the
reasons a step can stop, and the state right after reset. -/

namespace Sys2Proof.Machine

/-! ## Registers -/

/-- The F register, bits 7 to 0 (R108). `u5` and `u3` are storage bits no instruction names (R109). -/
structure Flags where
  s : Bool
  z : Bool
  u5 : Bool
  h : Bool
  u3 : Bool
  pv : Bool
  n : Bool
  c : Bool
deriving DecidableEq, Repr

/-- One register bank (R101, R102). -/
structure Bank where
  a : Byte
  f : Flags
  b : Byte
  c : Byte
  d : Byte
  e : Byte
  h : Byte
  l : Byte
deriving DecidableEq, Repr

/-- The run state (R112). -/
inductive RunState where
  | running | halted | sleeping
deriving DecidableEq, Repr

/-- The interrupt mode (R111). -/
inductive IntMode where
  | im0 | im1 | im2
deriving DecidableEq, Repr

/-! ## The MPU modules -/

/-- The sixteen registers of one MMU context (R115, R210). -/
abbrev MmuSet := Vector Word 16

/-- The DMA request controller and limiter (R117, R940 to R942). -/
structure Dma where
  /-- `dma_ack`: the processor is off the bus (R923). -/
  ack : Bool
  /-- The DMA-Under-Service bits (R942). -/
  dus : Byte
  /-- Clocks the present grant has lasted (R941). -/
  active : Nat
  /-- Clocks for which requests are still held off (R941). -/
  idle : Nat
  /-- The limiter has taken the bus back and no boundary has passed since (R941). -/
  cut : Bool
deriving DecidableEq, Repr

/-- The watch-dog timer (R118, R945 to R948). -/
structure Wdt where
  enabled : Bool
  /-- Clocks since the last honoured WDRES. -/
  count : Nat
  /-- `wdt_limit`, sampled from the `wdt_lim` input (R868). -/
  limit : Byte
  /-- Clocks the Arm Timer still runs; 0 when it is stopped (R867). -/
  arm : Nat
deriving DecidableEq, Repr

/-- The System Status latches (R119, R950 to R954). -/
structure SysStat where
  /-- Reset Status bit 7. -/
  fatalSeen : Bool
  /-- Reset Status bit 6. -/
  faultSeen : Bool
  /-- Reset Status bit 5. -/
  wdtSeen : Bool
  /-- Reset Status bit 4. -/
  porSeen : Bool
  /-- Reset Status bit 2. -/
  bus1Seen : Bool
  /-- Reset Status bit 0. -/
  bus0Seen : Bool
  /-- Trap Status bit 3. -/
  wpTrap : Bool
  /-- Trap Status bit 2. -/
  execTrap : Bool
  /-- Trap Status bit 1. -/
  ill3Trap : Bool
  /-- Trap Status bit 0. -/
  ill2Trap : Bool
  /-- Trap Address, logical. -/
  trapLog : Word
  /-- Trap Address, physical bits 27:12. -/
  trapPhys : Word
  /-- Fault Address, logical. -/
  faultLog : Word
  /-- Fault Address, physical bits 27:12. -/
  faultPhys : Word
  /-- `dma_req` Time-out Status (offset 0xC). -/
  dreqStat : Byte
  /-- `wait_req` Time-out Status (offset 0xD). -/
  waitStat : Byte
deriving DecidableEq, Repr

/-- The real-time-interrupt generator (R120, R955 to R959; log 17). -/
structure Rti where
  /-- The 24-bit down counter; 0 when the timer is stopped (R955, R956). -/
  count : BitVec 24
  /-- `rti_synced` (R957). -/
  synced : Bool
  /-- Recognised `ref_clock` edges since the reference was last lost, at most 2. -/
  edges : Nat
  /-- The last measured `ref_clock` period P in clocks, 0 before one is measured; the remainder of R957 is
  P modulo `rti_divisor`. -/
  period : Nat
  /-- Clocks since the last recognised edge. -/
  since : Nat
  /-- Edges missed since then while synchronised, at most 3 (R958). -/
  missed : Nat
  /-- Which period of the `ref_clock`-relative frame is running, from 1 on; 0 outside a frame (R957). -/
  slot : Nat
deriving DecidableEq, Repr

/-! ## The platform's side -/

/-- The physical addresses from `lo` to `hi`, both included. -/
structure AddrRange where
  lo : BitVec 28
  hi : BitVec 28
deriving DecidableEq, Repr

/-- The levels of the input pins (R9, R911). Where an input exists in one version only, the other version
ignores it. -/
structure Pins where
  nmiReq : Bool
  /-- CPU version. -/
  intReq : Bool
  /-- CPU version: the vector byte an acknowledge reads (R914). -/
  ivecDataIn : Byte
  intReqBus : BitVec 16
  intReqEn : BitVec 16
  ivecOffset : BitVec 3
  /-- `NMI_ADDR` (R10). -/
  nmiAddr : Word
  /-- CPU version. -/
  dmaReq : Bool
  dmaReqBus : Byte
  resetBus : BitVec 2
  extStatBus : Byte
  wdtLim : Byte
  drqActLim : BitVec 5
  drqIdlLim : BitVec 5
  iackWaitLim : BitVec 5
  ioWaitLim : BitVec 5
  memWaitLim : BitVec 5
  rtiDefault : BitVec 24
  rtiDivisor : BitVec 7
  refClock : Bool
  enPrftch : Bool
  /-- `ExecInhibit` of R212, as the physical addresses for which `exec_inh` is driven high. -/
  execInh : List AddrRange
  /-- `WriteInhibit` of R212, as the physical addresses for which `wr_inh` is driven high. -/
  wrInh : List AddrRange
deriving DecidableEq, Repr

/-- The three wait requests of R943. -/
inductive WaitKind where
  | iack
  | io
  /-- `after`: the access comes after the input that the same arrival puts inside the action, if it puts one. `bus`:
  what the data bus then holds, for a read of one physical address; none where the platform leaves there what the
  memory holds, or where the access is a write (R944). -/
  | mem (after : Bool) (bus : Option (BitVec 28 × Byte))
deriving DecidableEq, Repr

/-- What the platform can do (log 7, log 9). -/
inductive Input where
  /-- The input pins take these levels, already synchronised and filtered. -/
  | pins (p : Pins)
  /-- This many clocks pass. -/
  | clocks (n : Nat)
  /-- The user reset pin of the CPU version (R1000). -/
  | resetb
  /-- Power-on reset (R1004). -/
  | clearb
  /-- The main state machine is upset (R962), with this address on the bus. -/
  | faultDetect (la : Word)
  /-- A DMA master writes a byte (R215). -/
  | dmaWrite (pa : BitVec 28) (v : Byte)
  /-- The platform will answer the coming I/O reads with these bytes, in order. -/
  | ioData (vs : List Byte)
deriving DecidableEq, Repr

/-- Where in the machine's progress the platform acts (R1016). -/
inductive Arrival where
  /-- Between two actions of the machine. -/
  | between (inp : Input)
  /-- During the machine's next action: wait requests held until their limits, or for ever where there is none
  (R944), and an input with the number of the action's memory writes and other recorded transactions that come
  before it (R214). -/
  | during (held : List WaitKind) (inp : Option (Nat × Input))
deriving DecidableEq, Repr

/-- What a bus observer sees: I/O transactions, acknowledges and output pulses (R220; log 30). -/
inductive BusEvent where
  | ioRead (port : Word) (v : Byte)
  | ioWrite (port : Word) (v : Byte)
  /-- Maskable acknowledge with its vector byte and, in the MPU, the `int_ack_bus` line raised (R932). -/
  | intAck (vec : Byte) (line : Option Nat)
  | nmiAck
  /-- The acknowledge of an illegal-instruction trap, with `inst2_trap` active (R903). -/
  | illegalAck2
  /-- The same with `inst3_trap` active. -/
  | illegalAck3
  /-- `reti_tran` (R711). -/
  | retiTran
  /-- `ext_stat_rd` (R953). -/
  | extStatRd
  | drqTimeout
  | waitTimeout
  | wdtTimeout
  | rtiPulse
  /-- The `resetb` output of the MPU version (R1002). -/
  | resetOut
  /-- The `fault_detect` output (R962). -/
  | faultDetect
deriving DecidableEq, Repr

/-! ## Memory -/

/-- Memory by physical address: strictly rising keys, and no cell that holds what an unlisted address reads as. -/
abbrev Memory := List Host.Cell

/-- What an address that is not listed reads as (DESIGN CHOICE, log 6). -/
def unlistedByte : Byte := 0x00#8

/-! ## The machine -/

/-- Everything the spec gives the machine (R100), and the model's own fields `cfg`, `ioIn`, `busLog`, `sched`
and `free`. -/
structure State where
  /-- The parameters of this machine (R7, R11); no step changes them (log 1). -/
  cfg : Config
  /-- The active register bank (R101). -/
  reg : Bank
  /-- The alternate register bank (R102). -/
  alt : Bank
  ix : Word
  iy : Word
  sp : Word
  pc : Word
  i : Byte
  r : Byte
  iff1 : Bool
  iff2 : Bool
  im : IntMode
  run : RunState
  /-- `HaltIntEnabled` (R831). -/
  haltIntEn : Bool
  /-- The NMI request latch (R113). -/
  nmiLatch : Bool
  /-- The prefetch buffer (R114): the logical address it was read for, and the byte. -/
  prefetched : Option (Word × Byte)
  /-- The repeating block instruction in progress, whose opcode is not fetched again (R458). -/
  repeating : Option Instr
  /-- The shadow of the seven MPU block instructions (R869). -/
  shadow : Bool
  /-- EI was the last instruction; read only under `EI_SHADOW` = one_instruction (R1011). -/
  eiShadow : Bool
  /-- `WPpending` (R907). -/
  wpPending : Bool
  /-- The fatal-error latch (R121). -/
  fatal : Bool
  /-- The level of `int_req` last seen while sleeping (R922, `SLEEP_EXIT_DISABLED` = edge). -/
  intSeen : Bool
  /-- The active MMU context. -/
  mmu : MmuSet
  /-- The MMU buffer. -/
  mmuBuf : MmuSet
  /-- The interrupt request latches (R116). -/
  irq : BitVec 16
  /-- The Interrupt-Under-Service bits (R116). -/
  ius : BitVec 16
  dma : Dma
  wdt : Wdt
  sys : SysStat
  rti : Rti
  pins : Pins
  mem : Memory
  /-- The model's own: what the platform answers to the coming I/O reads (log 8). -/
  ioIn : List Byte
  /-- The model's own: what a bus observer has seen, newest first (log 30). -/
  busLog : List BusEvent
  /-- The model's own: what the data bus holds for the memory reads of this action that time out, by physical
  address (R944); empty between two steps (log 18). -/
  late : List (BitVec 28 × Byte)
  /-- The model's own: the platform's coming inputs, each after that many machine steps (log 7). -/
  sched : List (Nat × Arrival)
  /-- The model's own: the index of the next free value (log 29). -/
  free : Nat
deriving DecidableEq, Repr

/-- Why a step stops. No instruction raises it: the platform does. -/
inductive Fault where
  /-- A wait request held for ever that no limiter ends: the machine is stuck (U23 of
  93_implementation_defined.md, R944). Raised where the arrival `during` holds a wait request of a transaction
  that the action makes, and no reset ends it. Safe: the hardware makes no progress. -/
  | waitForever
deriving DecidableEq, Repr

/-- Why an instruction has no meaning. -/
inductive Refusal where
  /-- An instruction the model has not reached. Raised by no arm of `exec`. Safe. -/
  | notModelled (mnemonic : String)
deriving DecidableEq, Repr

/-! ## Reset -/

/-- The MMU context that translates nothing: register N holds 0x000N (R123, R210). -/
def mmuIdentity : MmuSet := Vector.ofFn fun k => BitVec.ofNat 16 k.val

/-- All flags 0. -/
def Flags.zero : Flags := ⟨false, false, false, false, false, false, false, false⟩

/-- All registers 0 (DESIGN CHOICE, log 2). -/
def Bank.zero : Bank := ⟨0#8, Flags.zero, 0#8, 0#8, 0#8, 0#8, 0#8, 0#8⟩

/-- Every input low, no address inhibited, `nmi_addr` at the default of D9 and `rti_default` at its least value,
so that the generator runs free (R124, P6 of 95_test_vectors.md; DESIGN CHOICE, log 7). -/
def Pins.initial : Pins where
  nmiReq := false
  intReq := false
  ivecDataIn := 0#8
  intReqBus := 0#16
  intReqEn := 0#16
  ivecOffset := 0#3
  nmiAddr := 0x0066#16
  dmaReq := false
  dmaReqBus := 0#8
  resetBus := 0#2
  extStatBus := 0#8
  wdtLim := 0#8
  drqActLim := 0#5
  drqIdlLim := 0#5
  iackWaitLim := 0#5
  ioWaitLim := 0#5
  memWaitLim := 0#5
  rtiDefault := 0x000400#24
  rtiDivisor := 0#7
  refClock := false
  enPrftch := false
  execInh := []
  wrInh := []

/-- The status latches after power-on: the power-on bit alone (R1004); the address latches at 0
(DESIGN CHOICE, log 5). -/
def SysStat.initial : SysStat where
  fatalSeen := false
  faultSeen := false
  wdtSeen := false
  porSeen := true
  bus1Seen := false
  bus0Seen := false
  wpTrap := false
  execTrap := false
  ill3Trap := false
  ill2Trap := false
  trapLog := 0#16
  trapPhys := 0#16
  faultLog := 0#16
  faultPhys := 0#16
  dreqStat := 0#8
  waitStat := 0#8

/-- The state that `clearb` followed by `resetb` leaves on a machine with these parameters (R123, R124, R1004):
the values the spec states, and for the rest the values the assumption log names (log 2 to log 8). -/
def State.resetOf (c : Config) : State where
  cfg := c
  reg := Bank.zero
  alt := Bank.zero
  ix := 0#16
  iy := 0#16
  sp := c.resetSp
  pc := 0#16
  i := c.resetI
  r := c.resetR
  iff1 := false
  iff2 := false
  im := .im0
  run := .running
  haltIntEn := false
  nmiLatch := false
  prefetched := none
  repeating := none
  shadow := false
  eiShadow := false
  wpPending := false
  fatal := false
  intSeen := false
  mmu := mmuIdentity
  mmuBuf := mmuIdentity
  irq := 0#16
  ius := 0#16
  dma := ⟨false, 0#8, 0, 0, false⟩
  wdt := ⟨false, 0, 0#8, 0⟩
  sys := SysStat.initial
  rti := ⟨1024#24, false, 0, 0, 0, 0, 0⟩
  pins := Pins.initial
  mem := []
  ioIn := []
  busLog := []
  late := []
  sched := []
  free := 0

/-- The machine with the spec's default parameters right after reset (log 1). -/
def State.reset : State := State.resetOf Config.initial

end Sys2Proof.Machine
end

