-- ==== Sys2Proof/Machine/Flags.lean ====
section
/-! DEFINITION. The exact arithmetic of R17, every flag computation of the instruction rules, and the one
operation that writes flags (R109). -/

namespace Sys2Proof.Machine

/-! ## F as a byte (R108) -/

/-- The byte PUSH AF stores: bits 7 to 0 of F. -/
def flagsToByte (f : Flags) : Byte := mkByte f.s f.z f.u5 f.h f.u3 f.pv f.n f.c

/-- The flags of a byte POP AF loads. -/
def flagsOfByte (b : Byte) : Flags where
  s := b.getLsbD 7
  z := b.getLsbD 6
  u5 := b.getLsbD 5
  h := b.getLsbD 4
  u3 := b.getLsbD 3
  pv := b.getLsbD 2
  n := b.getLsbD 1
  c := b.getLsbD 0

/-! ## Writing flags -/

/-- `U53_POLICY` (R109): the two unused bits of F after an instruction that writes a flag, here given the two
bits of `f` that its rule leaves alone. -/
def u53Bits (s : State) : Bool × Bool :=
  match s.cfg.u53 with
  | .any => (Config.freeBit s.free, Config.freeBit (s.free + 1))
  | .keep => (s.reg.f.u5, s.reg.f.u3)

/-- The free values `u53Bits` has used. -/
def u53Used (s : State) : Nat :=
  match s.cfg.u53 with
  | .any => 2
  | .keep => 0

/-- Write the six named flags from `f`; U5 and U3 follow R109. -/
def writeFlags (f : Flags) (s : State) : State :=
  { s with
    reg := { s.reg with f := { f with u5 := (u53Bits s).1, u3 := (u53Bits s).2 } }
    free := s.free + u53Used s }

/-! ## The helpers of R17 -/

/-- What `add8` and `sub8` give. -/
structure Alu8 where
  res : Byte
  h : Bool
  c : Bool
  v : Bool
deriving DecidableEq, Repr

/-- What `add16` and `sub16` give. -/
structure Alu16 where
  res : Word
  h : Bool
  c : Bool
  v : Bool
deriving DecidableEq, Repr

/-- `add8` of R17. -/
def add8 (a b : Byte) (cin : Bool) : Alu8 :=
  let res := BitVec.ofNat 8 (a.toNat + b.toNat + cin.toNat)
  { res := res
    h := decide ((loNibble a).toNat + (loNibble b).toNat + cin.toNat > 0xF)
    c := decide (a.toNat + b.toNat + cin.toNat > 0xFF)
    v := (a.msb == b.msb) && (res.msb != a.msb) }

/-- `sub8` of R17. -/
def sub8 (a b : Byte) (bin : Bool) : Alu8 :=
  let res := BitVec.ofInt 8 ((a.toNat : Int) - b.toNat - bin.toNat)
  { res := res
    h := decide ((loNibble a).toNat < (loNibble b).toNat + bin.toNat)
    c := decide (a.toNat < b.toNat + bin.toNat)
    v := (a.msb != b.msb) && (res.msb != a.msb) }

/-- `add16` of R17. -/
def add16 (a b : Word) (cin : Bool) : Alu16 :=
  let res := BitVec.ofNat 16 (a.toNat + b.toNat + cin.toNat)
  { res := res
    h := decide ((a.extractLsb' 0 12).toNat + (b.extractLsb' 0 12).toNat + cin.toNat > 0xFFF)
    c := decide (a.toNat + b.toNat + cin.toNat > 0xFFFF)
    v := (a.msb == b.msb) && (res.msb != a.msb) }

/-- `sub16` of R17. -/
def sub16 (a b : Word) (bin : Bool) : Alu16 :=
  let res := BitVec.ofInt 16 ((a.toNat : Int) - b.toNat - bin.toNat)
  { res := res
    h := decide ((a.extractLsb' 0 12).toNat < (b.extractLsb' 0 12).toNat + bin.toNat)
    c := decide (a.toNat < b.toNat + bin.toNat)
    v := (a.msb != b.msb) && (res.msb != a.msb) }

/-! ## The flags of each group, given the flags before -/

/-- `SZ` of R501. -/
def flagsSz (res : Byte) (f : Flags) : Flags := { f with s := res.msb, z := res == 0#8 }

/-- `SZP` of R501. -/
def flagsSzp (res : Byte) (f : Flags) : Flags := { flagsSz res f with pv := parityEven res }

/-- ADD and ADC (R504, R505). -/
def flagsAdd (o : Alu8) (f : Flags) : Flags :=
  { flagsSz o.res f with h := o.h, pv := o.v, n := false, c := o.c }

/-- SUB, SBC, CP, NEG (R506, R507, R511, R514; N is set by R503). -/
def flagsSub (o : Alu8) (f : Flags) : Flags :=
  { flagsSz o.res f with h := o.h, pv := o.v, n := true, c := o.c }

/-- AND and TST (R508, R519). -/
def flagsAnd (res : Byte) (f : Flags) : Flags :=
  { flagsSzp res f with h := true, n := false, c := false }

/-- OR and XOR (R509, R510). -/
def flagsOr (res : Byte) (f : Flags) : Flags :=
  { flagsSzp res f with h := false, n := false, c := false }

/-- INC of a byte (R512). -/
def flagsInc (o : Alu8) (f : Flags) : Flags :=
  { flagsSz o.res f with h := o.h, pv := o.v, n := false }

/-- DEC of a byte (R513). -/
def flagsDec (o : Alu8) (f : Flags) : Flags :=
  { flagsSz o.res f with h := o.h, pv := o.v, n := true }

/-- CPL (R515). -/
def flagsCpl (f : Flags) : Flags := { f with h := true, n := true }

/-- CCF (R517). -/
def flagsCcf (m : CcfMode) (f : Flags) : Flags :=
  { f with h := (match m with | .z80 => f.c | .z180 => false), n := false, c := !f.c }

/-- SCF (R518). -/
def flagsScf (f : Flags) : Flags := { f with h := false, n := false, c := true }

/-- ADD HL, ADD IX, ADD IY (R560, R561). -/
def flagsAdd16 (o : Alu16) (f : Flags) : Flags := { f with h := o.h, n := false, c := o.c }

/-- ADC HL (R562). -/
def flagsAdc16 (o : Alu16) (f : Flags) : Flags :=
  { f with s := o.res.msb, z := o.res == 0#16, h := o.h, pv := o.v, n := false, c := o.c }

/-- SBC HL (R563). -/
def flagsSbc16 (o : Alu16) (f : Flags) : Flags :=
  { f with s := o.res.msb, z := o.res == 0#16, h := o.h, pv := o.v, n := true, c := o.c }

/-- The accumulator rotates (R600 to R603), given the bit moved out. -/
def flagsRotA (out : Bool) (f : Flags) : Flags := { f with h := false, n := false, c := out }

/-- The CB-page rotates and shifts (R604), given the result and the bit moved out. -/
def flagsRot (res : Byte) (out : Bool) (f : Flags) : Flags :=
  { flagsSzp res f with h := false, n := false, c := out }

/-- RLD, RRD (R612, R613) and IN r,(C), IN0 (R761, R762): C is unchanged. -/
def flagsIn (res : Byte) (f : Flags) : Flags := { flagsSzp res f with h := false, n := false }

/-- BIT (R614). -/
def flagsBit (bit : Bool) (f : Flags) : Flags := { f with z := !bit, h := true, n := false }

/-- LD A,I and LD A,R (R412). -/
def flagsLdAI (v : Byte) (iff2 : Bool) (f : Flags) : Flags :=
  { flagsSz v f with h := false, pv := iff2, n := false }

/-- LDI and its kin (R450), given BC after the decrement. -/
def flagsLdi (bc : Word) (f : Flags) : Flags := { f with h := false, pv := bc != 0#16, n := false }

/-- CPI and its kin (R454). -/
def flagsCpi (o : Alu8) (bc : Word) (f : Flags) : Flags :=
  { flagsSz o.res f with h := o.h, pv := bc != 0#16, n := true }

/-- The block input group, and OUTI, OTIR, OUTD, OTDR by R779 (b), given B after the decrement. -/
def flagsBlockIo (b : Byte) (f : Flags) : Flags := { f with z := b == 0#8, n := true }

/-- OTIM and its kin (R774): `o` is the decrement of B, `v` the byte transferred. -/
def flagsOtim (o : Alu8) (v : Byte) (f : Flags) : Flags :=
  { flagsSzp o.res f with h := o.h, n := v.msb }

/-! ## DAA (R516) -/

/-- One row of the table of R516. -/
structure DaaRow where
  n : Bool
  c : Bool
  hiFrom : Nat
  hiTo : Nat
  h : Bool
  loFrom : Nat
  loTo : Nat
  added : Byte
  cOut : Bool
deriving DecidableEq, Repr

/-- The table of R516, in its order. -/
def daaRows : List DaaRow :=
  [ ⟨false, false, 0x0, 0x9, false, 0x0, 0x9, 0x00#8, false⟩,
    ⟨false, false, 0x0, 0x8, false, 0xA, 0xF, 0x06#8, false⟩,
    ⟨false, false, 0x0, 0x9, true, 0x0, 0x3, 0x06#8, false⟩,
    ⟨false, false, 0xA, 0xF, false, 0x0, 0x9, 0x60#8, true⟩,
    ⟨false, false, 0x9, 0xF, false, 0xA, 0xF, 0x66#8, true⟩,
    ⟨false, false, 0xA, 0xF, true, 0x0, 0x3, 0x66#8, true⟩,
    ⟨false, true, 0x0, 0x2, false, 0x0, 0x9, 0x60#8, true⟩,
    ⟨false, true, 0x0, 0x2, false, 0xA, 0xF, 0x66#8, true⟩,
    ⟨false, true, 0x0, 0x3, true, 0x0, 0x3, 0x66#8, true⟩,
    ⟨true, false, 0x0, 0x9, false, 0x0, 0x9, 0x00#8, false⟩,
    ⟨true, false, 0x0, 0x8, true, 0x6, 0xF, 0xFA#8, false⟩,
    ⟨true, true, 0x7, 0xF, false, 0x0, 0x9, 0xA0#8, true⟩,
    ⟨true, true, 0x6, 0xF, true, 0x6, 0xF, 0x9A#8, true⟩ ]

/-- The row applies to these flags and this accumulator. -/
def DaaRow.applies (row : DaaRow) (f : Flags) (a : Byte) : Bool :=
  row.n == f.n && row.c == f.c && row.h == f.h &&
    decide (row.hiFrom ≤ (hiNibble a).toNat) && decide ((hiNibble a).toNat ≤ row.hiTo) &&
    decide (row.loFrom ≤ (loNibble a).toNat) && decide ((loNibble a).toNat ≤ row.loTo)

/-- The number added and C after, where the table of R516 lists the input. -/
def daaLookup (f : Flags) (a : Byte) : Option (Byte × Bool) :=
  (daaRows.find? fun row => row.applies f a).map fun row => (row.added, row.cOut)

/-- The value `z80` of `DAA_OUTSIDE_TABLE` (R516): the number added (modulo 256) and C after. -/
def daaZ80 (f : Flags) (a : Byte) : Byte × Bool :=
  let low := if f.h || decide ((loNibble a).toNat > 9) then 0x06#8 else 0x00#8
  let c := f.c || decide (a.toNat > 0x99)
  let high := if c then 0x60#8 else 0x00#8
  (if f.n then 0#8 - (low + high) else low + high, c)

/-- The flags of DAA for a result the rule gives: H is free (U5 of 93_implementation_defined.md). -/
def flagsDaa (res : Byte) (c h : Bool) (f : Flags) : Flags := { flagsSzp res f with h := h, c := c }

/-! ## Conditions (R304, R700) -/

/-- `Cond` of R304. -/
def condHolds (cc : Cond) (f : Flags) : Bool :=
  match cc with
  | .nz => !f.z
  | .z => f.z
  | .nc => !f.c
  | .c => f.c
  | .po => !f.pv
  | .pe => f.pv
  | .p => !f.s
  | .m => f.s

end Sys2Proof.Machine
end

