-- ==== Sys2Proof/Machine/Ops.lean ====
section
/-! DEFINITION. The operations every meaning is written over: the program counter, memory and translation, the
stack, I/O, the System Status latches, taking an exception and returning from one, and the user reset. -/

namespace Sys2Proof.Machine

/-- What a meaning answers. -/
abbrev Result := Host.Outcome State Fault Refusal

/-! ## The program counter and the observer's log -/

/-- Set PC. -/
def State.setPc (w : Word) (s : State) : State := { s with pc := w }

/-- `PC = PCN` (R15, R129): past the instruction's own bytes. -/
def advance (k : Word) (s : State) : State := s.setPc (s.pc + k)

/-- Record what a bus observer sees. -/
def State.emit (e : BusEvent) (s : State) : State := { s with busLog := e :: s.busLog }

/-- This is the MPU version (R3). -/
def State.isMpu (s : State) : Bool := s.cfg.version == .mpu

/-! ## Memory cells -/

/-- The byte at a physical address. -/
def Memory.get : Memory → Nat → Byte
  | [], _ => unlistedByte
  | (k, v) :: m, a => if k = a then v else Memory.get m a

/-- Forget an address. -/
def Memory.erase (m : Memory) (a : Nat) : Memory := m.filter fun cell => decide (cell.1 ≠ a)

/-- Put a byte at its place among rising addresses. -/
def Memory.insert : Memory → Nat → Byte → Memory
  | [], a, v => [(a, v)]
  | (k, w) :: m, a, v =>
    if a < k then (a, v) :: (k, w) :: m
    else if a = k then (a, v) :: m
    else (k, w) :: Memory.insert m a v

/-- Write a byte: the byte an unlisted address reads as removes the cell. -/
def Memory.set (m : Memory) (a : Nat) (v : Byte) : Memory :=
  if v = unlistedByte then m.erase a else m.insert a v

/-- The canonical form: keys strictly rising and within 28 bits (R202), no cell of the unlisted byte. -/
def Memory.wf : Memory → Bool
  | [] => true
  | (k, v) :: m =>
    decide (v ≠ unlistedByte) && decide (k < 2 ^ 28) &&
      (match m with
        | [] => true
        | (k', _) :: _ => decide (k < k')) && Memory.wf m

/-! ## Translation and protection (R209, R212) -/

/-- `Translate` of R209; in the CPU version the physical address is the logical one. -/
def translate (s : State) (la : Word) : BitVec 28 :=
  match s.cfg.version with
  | .mpu => s.mmu.get (la.extractLsb' 12 4).toFin ++ la.extractLsb' 0 12
  | .cpu => la.setWidth 28

/-- An address lies in one of the ranges. -/
def inRanges (rs : List AddrRange) (pa : BitVec 28) : Bool :=
  rs.any fun x => decide (x.lo ≤ pa) && decide (pa ≤ x.hi)

/-- `WriteInhibit` of R212; the CPU version has no such pin. -/
def writeInhibited (s : State) (la : Word) : Bool :=
  s.isMpu && inRanges s.pins.wrInh (translate s la)

/-- `ExecInhibit` of R212; the CPU version has no such pin. -/
def execInhibited (s : State) (la : Word) : Bool :=
  s.isMpu && inRanges s.pins.execInh (translate s la)

/-! ## The System Status latches -/

/-- The Trap Address of R952: the address of the last trap condition, as it translates now. -/
def recordTrapAddr (la : Word) (s : State) : State :=
  { s with
    sys := { s.sys with trapLog := la, trapPhys := (translate s la).extractLsb' 12 16 } }

/-- Add one time-out to a status byte (R951): a flag, or a count that saturates. -/
def bumpStatus (accumulate : Bool) (b : Byte) : Byte :=
  if accumulate then (if b = 0xFF#8 then b else b + 1#8) else 0x01#8

/-! ## Memory access (R14) -/

/-- What a read of a physical address takes from the data bus: the byte memory holds, or, where the read times
out, what the platform has left there (R944). That this is one byte for each address in an action, and the byte
memory holds where the platform says nothing, is a DESIGN CHOICE (log 18). R220 leaves to the platform whether a read
has a side effect, and R206 whether a location changes by itself: here neither is so (DESIGN CHOICE, log 40). -/
def busByte (s : State) (pa : BitVec 28) : Byte := (s.late.lookup pa).getD (s.mem.get pa.toNat)

/-- `MemRead(la, 1)`. -/
def readMem (s : State) (la : Word) : Byte := busByte s (translate s la)

/-- `MemRead(la, 2)`: the low byte at the lower address, addresses modulo 2^16 (R203, R204). -/
def readMem16 (s : State) (la : Word) : Word := mk16 (readMem s (la + 1#16)) (readMem s la)

/-- Whether a write is a stack write (R909). -/
inductive WriteKind where
  | data | stack
deriving DecidableEq, Repr

/-- An inhibited write (R907): nothing is stored; the trap is recorded and left pending, or, on a stack write,
the fatal latch is set (R909). -/
def inhibitedWrite (k : WriteKind) (la : Word) (s : State) : State :=
  let s := recordTrapAddr la s
  match k with
  | .data => { s with sys := { s.sys with wpTrap := true }, wpPending := true }
  | .stack => { s with sys := { s.sys with wpTrap := true, fatalSeen := true }, fatal := true }

/-- `MemWrite(la, 1, v)` with the check of R907. -/
def writeMem (k : WriteKind) (la : Word) (v : Byte) (s : State) : State :=
  if writeInhibited s la then inhibitedWrite k la s
  else { s with mem := s.mem.set (translate s la).toNat v }

/-- `MemWrite(la, 2, w)`: low address first (R204, D5). -/
def writeMem16 (k : WriteKind) (la w : Word) (s : State) : State :=
  writeMem k (la + 1#16) (hiByte w) (writeMem k la (loByte w) s)

/-- Bytes written one after another at rising addresses. -/
def writeBytes (la : Word) : List Byte → State → State
  | [], s => s
  | v :: vs, s => writeBytes (la + 1#16) vs (writeMem .data la v s)

/-- `Push16` of R14: high byte at SP-1, then low byte at SP-2, then SP. -/
def push16 (w : Word) (s : State) : State :=
  let s' := writeMem .stack (s.sp - 2#16) (loByte w) (writeMem .stack (s.sp - 1#16) (hiByte w) s)
  { s' with sp := s.sp - 2#16 }

/-- The word `Pop16` of R14 returns. -/
def topOfStack (s : State) : Word := readMem16 s s.sp

/-- The stack pointer after `Pop16`. -/
def dropStack (s : State) : State := { s with sp := s.sp + 2#16 }

/-! ## I/O (R201, R220) -/

/-- The byte the platform answers to the next I/O read: what it has announced, else a free value (log 8). -/
def ioAnswer (s : State) : Byte :=
  match s.ioIn with
  | v :: _ => v
  | [] => Config.freeByte s.free

/-- `IORead(port)`: the state after the transaction. -/
def ioReadDone (port : Word) (s : State) : State :=
  match s.ioIn with
  | v :: vs => { s with ioIn := vs, busLog := .ioRead port v :: s.busLog }
  | [] =>
    { s with free := s.free + 1, busLog := .ioRead port (Config.freeByte s.free) :: s.busLog }

/-- `IOWrite(port, v)`. -/
def ioWrite (port : Word) (v : Byte) (s : State) : State := s.emit (.ioWrite port v)

/-! ## Repeating instructions (R458) -/

/-- The end of an iteration: PC stays at the instruction while it repeats, and the opcode is kept; when it is
done PC moves past its two bytes. -/
def finishIteration (again : Bool) (self : Instr) (s : State) : State :=
  if again then { s with repeating := some self }
  else { s with repeating := none, pc := s.pc + 2#16 }

/-! ## Taking an exception and returning from one -/

/-- The fetch in progress is dropped: the prefetch buffer (D6) and a repeating instruction's opcode (R458). -/
def dropFetch (s : State) : State := { s with prefetched := none, repeating := none }

/-- Every trap and acknowledge (R902, R912, R913): save `saved` on the stack with `Push16` and continue at
`target`. -/
def enterException (saved target : Word) (s : State) : State :=
  (push16 saved (dropFetch s)).setPc target

/-- `RET`, `RETI` and `RETN` alike: `PC <- Pop16()` (R709, R711, R712). -/
def returnFrom (s : State) : State := (dropStack s).setPc (topOfStack s)

/-- `ILLEGAL_TRAP_IFF` (R918). -/
def illegalIffs (s : State) : State :=
  match s.cfg.illegalIff with
  | .unchanged => s
  | .cleared => { s with iff1 := false, iff2 := false }

/-- IllegalInstruction2 (R903, R904), with PC at the instruction's first byte. -/
def illegalTrap2 (s : State) : State :=
  let saved := match s.cfg.illegalStackedPc with
    | .firstByte => s.pc
    | .secondByte => s.pc + 1#16
  let recorded :=
    if s.isMpu then
      let t := recordTrapAddr s.pc s
      { t with sys := { t.sys with ill2Trap := true } }
    else s
  enterException saved 0x0000#16 ((illegalIffs recorded).emit .illegalAck2)

/-- IllegalInstruction3 (R903, R904), with PC at the instruction's first byte. -/
def illegalTrap3 (s : State) : State :=
  let recorded :=
    if s.isMpu then
      let t := recordTrapAddr (s.pc + 2#16) s
      { t with sys := { t.sys with ill3Trap := true } }
    else s
  enterException (s.pc + 2#16) 0x0000#16 ((illegalIffs recorded).emit .illegalAck3)

/-- The RST 0 that replaces the instruction at PC (R905, R907). -/
def substituteRst0 (s : State) : State := enterException (s.pc + 1#16) 0x0000#16 s

/-- The execute-inhibit trap (R905), with PC at the inhibited byte; fatal in page 0 (R909). -/
def executeInhibitTrap (s : State) : State :=
  let t := recordTrapAddr s.pc s
  if s.pc.extractLsb' 12 4 = 0#4 then
    { t with sys := { t.sys with execTrap := true, fatalSeen := true }, fatal := true }
  else substituteRst0 { t with sys := { t.sys with execTrap := true } }

/-- The pending write-protect trap (R907), with PC at the address about to be fetched. The substituted RST 0 is
the instruction that follows a block instruction, so the shadow of R869 ends with it. -/
def writeProtectTrap (s : State) : State :=
  substituteRst0 { s with wpPending := false, shadow := false, eiShadow := false }

/-! ## The user reset (R123, R1000) -/

/-- Every piece of state at the value R123 gives it after `resetb`; the general registers, memory, the System
Status latches and the RTI generator pass through (R1001, R1003). -/
def userReset (s : State) : State :=
  { s with
    pc := 0x0000#16
    sp := s.cfg.resetSp
    i := s.cfg.resetI
    r := s.cfg.resetR
    iff1 := false
    iff2 := false
    im := .im0
    run := .running
    haltIntEn := false
    nmiLatch := false
    prefetched := none
    repeating := none
    shadow := false
    eiShadow := false
    wpPending := false
    fatal := false
    intSeen := false
    mmu := mmuIdentity
    mmuBuf := mmuIdentity
    irq := 0#16
    ius := 0#16
    dma := ⟨false, 0#8, 0, 0, false⟩
    wdt := ⟨false, 0, s.pins.wdtLim, 0⟩ }

end Sys2Proof.Machine
end

