-- ==== Sys2Proof/Machine/Operands.lean ====
section
/-! DEFINITION. Every operand form: registers, register pairs, index registers, effective addresses, ports. -/

namespace Sys2Proof.Machine

/-! ## 8-bit registers (R101, R302) -/

/-- `R8[rrr]`. -/
def getR (r : R8) (s : State) : Byte :=
  match r with
  | .b => s.reg.b
  | .c => s.reg.c
  | .d => s.reg.d
  | .e => s.reg.e
  | .h => s.reg.h
  | .l => s.reg.l
  | .a => s.reg.a

/-- `R8[rrr] <- v`. -/
def setR (r : R8) (v : Byte) (s : State) : State :=
  match r with
  | .b => { s with reg := { s.reg with b := v } }
  | .c => { s with reg := { s.reg with c := v } }
  | .d => { s with reg := { s.reg with d := v } }
  | .e => { s with reg := { s.reg with e := v } }
  | .h => { s with reg := { s.reg with h := v } }
  | .l => { s with reg := { s.reg with l := v } }
  | .a => { s with reg := { s.reg with a := v } }

/-! ## Word registers (R13, R303) -/

/-- BC. -/
def regBc (s : State) : Word := mk16 s.reg.b s.reg.c

/-- DE. -/
def regDe (s : State) : Word := mk16 s.reg.d s.reg.e

/-- HL. -/
def regHl (s : State) : Word := mk16 s.reg.h s.reg.l

/-- AF, with the flags as a byte. -/
def regAf (s : State) : Word := mk16 s.reg.a (flagsToByte s.reg.f)

/-- `RP_dd[c]`, `RP_tt[c]`, `RP_xx[c]`, `RP_yy[c]`. -/
def getPair (p : Pair) (s : State) : Word :=
  match p with
  | .bc => regBc s
  | .de => regDe s
  | .hl => regHl s
  | .sp => s.sp
  | .af => regAf s
  | .ix => s.ix
  | .iy => s.iy

/-- A write of a word register: both halves (R13); AF takes all eight bits of F (R426). -/
def setPair (p : Pair) (w : Word) (s : State) : State :=
  match p with
  | .bc => { s with reg := { s.reg with b := hiByte w, c := loByte w } }
  | .de => { s with reg := { s.reg with d := hiByte w, e := loByte w } }
  | .hl => { s with reg := { s.reg with h := hiByte w, l := loByte w } }
  | .sp => { s with sp := w }
  | .af => { s with reg := { s.reg with a := hiByte w, f := flagsOfByte (loByte w) } }
  | .ix => { s with ix := w }
  | .iy => { s with iy := w }

/-- `XY` (R13). -/
def getIdx (y : Idx) (s : State) : Word :=
  match y with
  | .ix => s.ix
  | .iy => s.iy

/-- `XY <- w`. -/
def setIdx (y : Idx) (w : Word) (s : State) : State :=
  match y with
  | .ix => { s with ix := w }
  | .iy => { s with iy := w }

/-! ## Effective addresses and memory operands -/

/-- `XY + sext_16(d)` (R306). -/
def eaIdx (y : Idx) (d : Byte) (s : State) : Word := getIdx y s + sext16 d

/-- The operand (HL). -/
def srcM (s : State) : Byte := readMem s (regHl s)

/-- The operand (IX+d) or (IY+d). -/
def srcX (y : Idx) (d : Byte) (s : State) : Byte := readMem s (eaIdx y d s)

/-! ## Ports (R201) -/

/-- `{A, n}` of IN A,(n) and OUT (n),A. -/
def portAn (n : Byte) (s : State) : Word := mk16 s.reg.a n

/-- `{0x00, n}` of IN0 and OUT0. -/
def portZero (n : Byte) : Word := mk16 0x00#8 n

/-- The port of OTIM and its kin (R780). -/
def portOtim (s : State) : Word :=
  match s.cfg.otxmHigh with
  | .zero => portZero s.reg.c
  | .regB => regBc s

/-- The port of OUTI and its kin (R779). -/
def portBlockOut (s : State) : Word :=
  match s.cfg.blockOutB with
  | .before => regBc s
  | .after => mk16 (s.reg.b - 1#8) s.reg.c

/-! ## Jump targets -/

/-- The address of a restart number (R309). -/
def restartAddr (v : BitVec 3) : Word := v.setWidth 16 * 8#16

/-- The target of a relative jump (R307), from the address of the next instruction. -/
def relTarget (e : Byte) (pcn : Word) : Word := pcn + sext16 e

end Sys2Proof.Machine
end

