-- ==== Sys2Proof/Machine/Rti.lean ====
section
/-! DEFINITION. The real-time-interrupt generator of the MPU (R955 to R959; log 17). -/

namespace Sys2Proof.Machine

/-! ## What the generator is doing -/

/-- What `rti_default` loads (R956): 0 stops the timer, a smaller non-zero value than 1024 is forced to 1024. -/
def rtiDefaultCount (p : Pins) : BitVec 24 :=
  if p.rtiDefault = 0#24 then 0#24 else if p.rtiDefault.toNat < 1024 then 1024#24 else p.rtiDefault

/-- The generator divides the reference (R957). -/
def rtiDividing (p : Pins) (r : Rti) : Bool := r.synced && decide (2 ≤ p.rtiDivisor.toNat)

/-- The generator passes the reference edges on, and nothing else (R957): from the first measured period on, also
while the reference is lost. -/
def rtiPassing (p : Pins) (r : Rti) : Bool := decide (r.period ≠ 0) && decide (p.rtiDivisor.toNat = 1)

/-- Q of R957, forced to at least 1024. -/
def rtiQuotient (p : Pins) (r : Rti) : Nat := max 1024 (r.period / p.rtiDivisor.toNat)

/-! ## The lengths of the pulse periods -/

/-- The adjustment of a frame's last period (R958): by one clock towards the next `ref_clock` edge, which is due
P clocks after the last one, and not below the least period of 1024 clocks. -/
def rtiTracked (r : Rti) (len : Nat) : Nat :=
  max 1024 (if r.since + len < r.period then len + 1 else if r.period < r.since + len then len - 1 else len)

/-- The length of the k-th period of a frame, at the clock at which it starts: the first R are longer by one clock
(R957), the last tracks the edge (R958). -/
def rtiSlot (p : Pins) (r : Rti) (k : Nat) : Nat :=
  let len := rtiQuotient p r + (if k ≤ r.period % p.rtiDivisor.toNat then 1 else 0)
  if k = p.rtiDivisor.toNat then rtiTracked r len else len

/-- A free value of the counter, not below 1024. -/
def freeCount (n : Nat) : BitVec 24 :=
  let v := Config.freeByte n ++ Config.freeByte (n + 1) ++ Config.freeByte (n + 2)
  if v.toNat < 1024 then 1024#24 else v

/-- What the 24-bit counter takes for a period of `len` clocks. The spec does not say what it takes for a period
that 24 bits cannot hold: a free value (DESIGN CHOICE, log 17). -/
def rtiCount (n len : Nat) : BitVec 24 := if len < 2 ^ 24 then BitVec.ofNat 24 len else freeCount n

/-- The k-th period of a frame starts. -/
def rtiStartSlot (p : Pins) (n k : Nat) (r : Rti) : Rti := { r with slot := k, count := rtiCount n (rtiSlot p r k) }

/-- A period outside a frame starts. With no reference measured yet, or with `rti_divisor` 0 or 1, it is
`rti_default` (R956, R957). With a measured reference and `rti_divisor` 2 or more, a free bit says whether the last
quotient or `rti_default` is taken, in two cases (DESIGN CHOICE, log 17): the reference is overdue or lost, where
either text of C30 may hold; or `rti_divisor` has gone from 0 or 1 to 2 or more while the generator is synchronised,
where R957 does not say what a reload takes before the next edge starts a frame. -/
def rtiStartFree (p : Pins) (n : Nat) (r : Rti) : Rti :=
  { r with
    slot := 0
    count :=
      if 2 ≤ p.rtiDivisor.toNat ∧ r.period ≠ 0 ∧ Config.freeBit n = true then rtiCount n (rtiQuotient p r)
      else rtiDefaultCount p }

/-- The reload at a pulse (R955): the next period of the frame, the next frame if no edge is overdue by more than
the one clock of R958, or a period outside a frame. `rti_divisor` is read here and not before, so that the period
running when it becomes 0 is finished, with its pulse, and a change among the values from 2 on counts from the next
reload, with the number of the slot kept (DESIGN CHOICE, log 17). -/
def rtiReload (p : Pins) (n : Nat) (r : Rti) : Rti :=
  if rtiDividing p r && decide (r.slot ≠ 0) then
    if r.slot < p.rtiDivisor.toNat then rtiStartSlot p n (r.slot + 1) r
    else if r.since ≤ r.period + 1 then rtiStartSlot p n 1 r
    else rtiStartFree p n r
  else rtiStartFree p n r

/-! ## Missed edges -/

/-- The edges missed since the last one. R958 does not say how late an edge may be before it counts as missed: the
k-th is counted at the first clock after k periods P from the last edge (DESIGN CHOICE, log 17). -/
def rtiMissed (r : Rti) : Nat := if r.period = 0 then 0 else min 3 ((r.since - 1) / r.period)

/-- The missed edges are counted while the generator is synchronised; at the third it no longer is, and two new
edges are needed (R957, R958). The last measured period is kept, for C30. -/
def rtiWatch (r : Rti) : Rti :=
  if !r.synced then r
  else if rtiMissed r < 3 then { r with missed := rtiMissed r }
  else { r with synced := false, edges := 0, missed := 3 }

/-! ## Clocks -/

/-- A stopped counter is loaded as soon as `rti_default` lets it run. R956 has the value sampled at power-on and where
the timer counts down to zero, and does not say when a timer stopped by 0, or by the edges passed on with `rti_divisor`
1, starts again (DESIGN CHOICE, log 17). -/
def rtiStart (p : Pins) (r : Rti) : Rti := if r.count = 0#24 then { r with count := rtiDefaultCount p } else r

/-- The counter over `n` clocks, at most `fuel` stretches of it, each up to a pulse, where the edges missed by then
are counted before the reload. -/
def rtiRun : Nat → Nat → State → State
  | 0, _, s => s
  | fuel + 1, n, s =>
    let r := rtiStart s.pins s.rti
    if rtiPassing s.pins r then { s with rti := { r with count := 0#24, slot := 0, since := r.since + n } }
    else if r.count = 0#24 ∨ n < r.count.toNat then
      { s with rti := { r with count := BitVec.ofNat 24 (r.count.toNat - n), since := r.since + n } }
    else
      rtiRun fuel (n - r.count.toNat)
        (State.emit .rtiPulse
          { s with
            rti := rtiReload s.pins s.free (rtiWatch { r with since := r.since + r.count.toNat })
            free := s.free + 3 })

/-- The generator over `n` clocks. Every stretch but the first has at least 1024. -/
def rtiClocks (n : Nat) (s : State) : State :=
  if !s.isMpu then s
  else
    let t := rtiRun (n / 1024 + 2) n s
    { t with rti := rtiWatch t.rti }

/-! ## Edges of the reference -/

/-- A pulse at the edge itself, where the edges are passed on (R957). -/
def rtiPassEdge (s : State) : State :=
  if rtiPassing s.pins s.rti then State.emit .rtiPulse { s with rti := { s.rti with count := 0#24, slot := 0 } } else s

/-- A frame starts at an edge, without a pulse, unless one is running already, which tracks the edge by itself
(R958; DESIGN CHOICE, log 17). -/
def rtiAlign (running : Bool) (s : State) : State :=
  if rtiDividing s.pins s.rti && !running then
    { s with rti := rtiStartSlot s.pins s.free 1 s.rti, free := s.free + 3 }
  else s

/-- A recognised rising edge of `ref_clock`: the first after power-on or a loss starts the measurement, each later
one gives the period (R957). R957 does not say what P becomes at an edge after one or two missed ones: it is the whole
interval since the last recognised edge (DESIGN CHOICE, log 17). -/
def rtiEdge (s : State) : State :=
  let r := s.rti
  if r.edges = 0 then rtiPassEdge { s with rti := { r with edges := 1, since := 0, missed := 0 } }
  else
    rtiPassEdge
      (rtiAlign (r.synced && decide (r.slot ≠ 0))
        { s with rti := { r with edges := 2, synced := true, period := max 1 r.since, since := 0, missed := 0 } })

/-- The generator after `clearb` (R956, R1004): free-running, the default sampled. -/
def rtiPowerOn (p : Pins) : Rti := ⟨rtiDefaultCount p, false, 0, 0, 0, 0, 0⟩

/-! ## Status -/

/-- RTI Generator Status (R959). Where the spec gives a bit no value the model reads 0 (DESIGN CHOICE, log 37):
bit 4 while the generator does not divide; bit 0 while it is still synchronised but an edge is overdue and the
counter may hold `rti_default`, and while the edges are passed on. After a loss with a divisor of 2 or more bit 0
reads 1, also where the last value goes on (C30; DESIGN CHOICE, log 37). Where `rti_divisor` goes from 0 or 1 to 2 or
more while the generator is synchronised, bit 2 reads 1 and bit 0 reads 0 at once, though no frame runs until the next
edge (DESIGN CHOICE, log 37). Bit 3 reads 0 from power-on, and from a loss, until the second recognised edge, where R959
gives it no value after power-on nor between those edges (DESIGN CHOICE, log 37). Bits 4, 2, 1 and 0 follow
`rti_divisor` and `rti_default` at once, before the next reload takes them (DESIGN CHOICE, log 37). -/
def rtiStatus (p : Pins) (r : Rti) : Byte :=
  mkByte false false p.refClock
    (rtiDividing p r && decide (r.period / p.rtiDivisor.toNat < 1024))
    (r.synced && decide (r.missed < 2))
    (rtiDividing p r)
    (p.rtiDefault != 0#24 && decide (p.rtiDefault.toNat < 1024))
    (p.rtiDefault != 0#24 && !rtiDividing p r && !rtiPassing p r)

end Sys2Proof.Machine
end

