-- ==== Sys2Proof/Machine/Platform.lean ====
section
/-! DEFINITION. The MPU modules and the platform: interrupt controller, acknowledges, DMA, watch-dog, resets, and
what each input does (60_exceptions.md, 70_reset_and_hazards.md). -/

namespace Sys2Proof.Machine

/-! ## Priorities (R932, R940) -/

/-- The indices below `n`, the highest priority first. -/
def priorityList (n : Nat) (s : State) : List Nat :=
  match s.cfg.intPriority with
  | .highIndexFirst => (List.range n).reverse
  | .lowIndexFirst => List.range n

/-- The 16-bit word with bit k alone set. -/
def bitAt (k : Nat) : BitVec 16 := 1#16 <<< k

/-! ## The interrupt controller (R930 to R934) -/

/-- The input an acknowledge would take: the highest-priority pending one, unless an interrupt of the same or a
higher priority is under service (R932, R933). -/
def intLine (s : State) : Option Nat :=
  match (priorityList 16 s).find? fun k => s.irq.getLsbD k || s.ius.getLsbD k with
  | some k => if s.ius.getLsbD k then none else some k
  | none => none

/-- The level of `int_req` at the core (R911). -/
def intRequest (s : State) : Bool :=
  match s.cfg.version with
  | .cpu => s.pins.intReq
  | .mpu => (intLine s).isSome

/-- The byte the controller returns for an input (R934). -/
def controllerVector (s : State) (k : Nat) : Byte :=
  match s.im with
  | .im2 => s.pins.ivecOffset ++ BitVec.ofNat 4 k ++ 0b0#1
  | .im0 | .im1 => 0b11#2 ++ s.pins.ivecOffset ++ 0b111#3

/-- The vector byte of an acknowledge (R914). -/
def intVector (s : State) : Byte :=
  match s.cfg.version with
  | .cpu => s.pins.ivecDataIn
  | .mpu => controllerVector s ((intLine s).getD 0)

/-- The `int_ack_bus` line raised at an acknowledge (R932); the CPU version has none. -/
def ackLine (s : State) : Option Nat :=
  match s.cfg.version with
  | .cpu => none
  | .mpu => intLine s

/-- What an acknowledge does to the controller: the latch is cleared, the IUS bit set (R932, R933). -/
def takeLine (s : State) : State :=
  match ackLine s with
  | some k => { s with irq := s.irq &&& ~~~(bitAt k), ius := s.ius ||| bitAt k }
  | none => s

/-- `reti_tran` (R711): in the MPU the highest-priority IUS bit that is set is cleared (R933). -/
def retiPulse (s : State) : State :=
  let t := s.emit .retiTran
  match s.cfg.version with
  | .cpu => t
  | .mpu =>
    match (priorityList 16 s).find? fun k => s.ius.getLsbD k with
    | some k => { t with ius := s.ius &&& ~~~(bitAt k) }
    | none => t

/-! ## Acknowledges (R912 to R918) -/

/-- NMI acknowledge (R912): IFF1 is cleared, IFF2 kept (R918). -/
def nmiAck (s : State) : State :=
  enterException s.pc s.pins.nmiAddr
    { s.emit .nmiAck with nmiLatch := false, iff1 := false, run := .running, eiShadow := false }

/-- Where the service routine is (R915, R916, R917). -/
def intTarget (s : State) : Word :=
  match s.im with
  | .im0 => restartAddr ((intVector s).extractLsb' 3 3)
  | .im1 => 0x0038#16
  | .im2 => readMem16 s (mk16 s.i (intVector s))

/-- Maskable acknowledge (R913): both IFFs are cleared (R918); the mode 2 table is read before the push. -/
def intAck (s : State) : State :=
  enterException s.pc (intTarget s)
    { (takeLine s).emit (.intAck (intVector s) (ackLine s)) with
      iff1 := false, iff2 := false, run := .running, eiShadow := false }

/-! ## DMA (R923, R940 to R942) -/

/-- `dma_req` at the core: the pin, or in the MPU the requests the limiter lets through (R941). -/
def dmaRequest (s : State) : Bool :=
  match s.cfg.version with
  | .cpu => s.pins.dmaReq
  | .mpu => s.pins.dmaReqBus != 0#8 && decide (s.dma.idle = 0) && !s.dma.cut

/-- The DUS bits while the bus is granted: the highest-priority requester alone (R942). -/
def dmaServed (s : State) : Byte :=
  match s.cfg.version with
  | .cpu => 0#8
  | .mpu =>
    match (priorityList 8 s).find? fun k => s.pins.dmaReqBus.getLsbD k with
    | some k => 1#8 <<< k
    | none => 0#8

/-- The processor is off the bus (R923); the prefetch buffer is dropped (D6). -/
def dmaGrant (s : State) : State :=
  { s with dma := { s.dma with ack := true, dus := dmaServed s }, prefetched := none }

/-- The processor has the bus again; the idle limit starts when a grant ends (R941). -/
def dmaRelease (s : State) : State :=
  if s.dma.ack then
    { s with dma := ⟨false, 0#8, 0, if s.isMpu then 16 * s.pins.drqIdlLim.toNat else 0, false⟩ }
  else { s with dma := { s.dma with cut := false } }

/-- The limiter over `n` clocks (R941). -/
def dmaClocks (n : Nat) (s : State) : State :=
  if !s.isMpu then s
  else if s.dma.ack then
    let act := 16 * s.pins.drqActLim.toNat
    let now := s.dma.active + n
    if act ≠ 0 ∧ act ≤ now then
      State.emit .drqTimeout
        { s with
          dma := ⟨false, 0#8, 0, 16 * s.pins.drqIdlLim.toNat - (now - act), true⟩
          sys := { s.sys with dreqStat := bumpStatus s.cfg.dreqAcc s.sys.dreqStat } }
    else { s with dma := { s.dma with active := now } }
  else { s with dma := { s.dma with idle := s.dma.idle - n } }

/-! ## Resets -/

/-- A reset the MPU makes itself: `resetb` is an output (R1002). -/
def mpuReset (s : State) : State := State.emit .resetOut (userReset s)

/-- Store a byte without a check: what a stack byte of a fatal trap's push may do (U9). -/
def pokeMem (la : Word) (v : Byte) (s : State) : State :=
  { s with mem := s.mem.set (translate s la).toNat v }

/-- One stack byte of a fatal trap's push (U9): written or not, as a free bit says, and never where `wr_inh` is
active. -/
def maybePoke (la : Word) (v : Byte) (s : State) : State :=
  let t := { s with free := s.free + 1 }
  if !writeInhibited s la && Config.freeBit s.free then pokeMem la v t else t

/-- The reset a fatal error forces (R909, log 12). -/
def fatalReset (s : State) : State :=
  let w := s.pc + 1#16
  mpuReset (maybePoke (s.sp - 2#16) (loByte w) (maybePoke (s.sp - 1#16) (hiByte w) s))

/-- A bank of free values (U2), from index `n` on. -/
def freeBank (n : Nat) : Bank where
  a := Config.freeByte n
  f := flagsOfByte (Config.freeByte (n + 1))
  b := Config.freeByte (n + 2)
  c := Config.freeByte (n + 3)
  d := Config.freeByte (n + 4)
  e := Config.freeByte (n + 5)
  h := Config.freeByte (n + 6)
  l := Config.freeByte (n + 7)

/-- A free word. -/
def freeWord (n : Nat) : Word := mk16 (Config.freeByte n) (Config.freeByte (n + 1))

/-- The general registers of both banks, IX and IY become free values (U2, U20). -/
def freeRegisters (s : State) : State :=
  { s with
    reg := freeBank s.free
    alt := freeBank (s.free + 8)
    ix := freeWord (s.free + 16)
    iy := freeWord (s.free + 18)
    free := s.free + 20 }

/-! ## The watch-dog (R945 to R948) -/

/-- The period of the watch-dog in clocks (R946). -/
def wdtPeriod (limit : Byte) : Nat := (limit.toNat + 1) * 2 ^ 20

/-- The clocks until an enabled watch-dog times out. -/
def wdtLeft (s : State) : Nat := wdtPeriod s.wdt.limit - s.wdt.count

/-- An enabled watch-dog times out within `n` clocks (R948). -/
def wdtExpires (n : Nat) (s : State) : Bool := s.isMpu && s.wdt.enabled && decide (wdtLeft s ≤ n)

/-- The Arm Timer and the watch-dog over `n` clocks in which it does not time out (R867, R946). -/
def wdtClocks (n : Nat) (s : State) : State :=
  if !s.isMpu then s
  else
    { s with
      wdt :=
        { s.wdt with
          arm := s.wdt.arm - n
          count := if s.wdt.enabled then s.wdt.count + n else s.wdt.count } }

/-- The watch-dog time-out: a reset (R948, R1002). -/
def wdtTimeout (s : State) : State :=
  mpuReset (State.emit .wdtTimeout { s with sys := { s.sys with wdtSeen := true } })

/-! ## Inputs -/

/-- NMI requests, and in the MPU the request latches, at a change of the pins (R113, R931, R932). -/
def latchRequests (p : Pins) (s : State) : State :=
  { s with
    nmiLatch := s.nmiLatch || p.nmiReq
    irq :=
      if s.isMpu then (s.irq ||| (p.intReqBus &&& ~~~s.pins.intReqBus)) &&& p.intReqEn else s.irq
    pins := p }

/-- The pins take new levels: requests are latched, a rising `ref_clock` is an edge (R957), and in the MPU a
transition on `reset_bus` is a reset (R1002). -/
def applyPins (p : Pins) (s : State) : State :=
  let t := latchRequests p s
  let t := if s.isMpu && p.refClock && !s.pins.refClock then rtiEdge t else t
  let moved := p.resetBus ^^^ s.pins.resetBus
  if s.isMpu && moved != 0#2 then
    mpuReset
      { t with
        sys :=
          { t.sys with
            bus1Seen := t.sys.bus1Seen || moved.getLsbD 1
            bus0Seen := t.sys.bus0Seen || moved.getLsbD 0 } }
  else t

/-- The timers of the MPU over `n` clocks in which the watch-dog does not time out. -/
def timers (n : Nat) (s : State) : State := wdtClocks n (dmaClocks n (rtiClocks n s))

/-- Clocks pass (R1015, log 9); the core itself counts none. Where the watch-dog times out among them, its reset stops
the other timers' work of that moment (R1002), and the rest of the clocks pass after it. -/
def applyClocks (n : Nat) (s : State) : State :=
  if wdtExpires n s then timers (n - wdtLeft s) (wdtTimeout (timers (wdtLeft s) s)) else timers n s

/-- Power-on (R1004): what `resetb` leaves alone is initialised, to free values where none is stated (R124,
log 20), and nothing else; in the MPU the System Status block then makes a reset of it. -/
def applyClearb (s : State) : State :=
  let t := freeRegisters s
  if s.isMpu then
    mpuReset
      { t with
        sys :=
          { SysStat.initial with
            trapLog := freeWord t.free
            trapPhys := freeWord (t.free + 2)
            faultLog := freeWord (t.free + 4)
            faultPhys := freeWord (t.free + 6) }
        rti := rtiPowerOn s.pins
        free := t.free + 8 }
  else t

/-- A free choice of a list, or its default. -/
def freeChoice {α : Type} (n : Nat) (d : α) (xs : List α) : α :=
  xs.getD ((Config.freeByte n).toNat % (xs.length + 1)) d

/-- Every register, flag and latch of the core a free value (U20); the latches of the MPU modules, which the CPU
version has not, and memory are kept. -/
def freeCore (s : State) : State :=
  let t := freeRegisters s
  let n := t.free
  { t with
    sp := freeWord n
    pc := freeWord (n + 2)
    i := Config.freeByte (n + 4)
    r := Config.freeByte (n + 5)
    iff1 := Config.freeBit n
    iff2 := Config.freeBit (n + 1)
    im := freeChoice (n + 6) .im0 [.im1, .im2]
    run := freeChoice (n + 7) .running [.halted, .sleeping]
    haltIntEn := Config.freeBit (n + 2)
    nmiLatch := Config.freeBit (n + 3)
    prefetched :=
      freeChoice (n + 8) none ([0xCB#8, 0xDD#8, 0xED#8, 0xFD#8].map fun b => some (freeWord (n + 9), b))
    repeating :=
      freeChoice (n + 11) none
        ([Instr.ldir, .lddr, .cpir, .cpdr, .inir, .indr, .otir, .otdr, .otimr, .otdmr].map some)
    eiShadow := Config.freeBit (n + 4)
    intSeen := Config.freeBit (n + 5)
    dma := { s.dma with ack := Config.freeBit (n + 6), dus := 0#8 }
    free := n + 12 }

/-- `fault_detect` (R962, U20). The CPU version only reports it, and its state is anything until the platform's
reset. The MPU records it and resets itself (R952, R1002), with the registers that a reset keeps free. -/
def applyFault (la : Word) (s : State) : State :=
  match s.cfg.version with
  | .cpu => (freeCore s).emit .faultDetect
  | .mpu =>
    let t := (freeRegisters s).emit .faultDetect
    mpuReset
      { t with
        sys :=
          { s.sys with
            faultSeen := true
            faultLog := la
            faultPhys := (translate s la).extractLsb' 12 16 } }

/-- A DMA master writes memory, which it can only while it has the bus (R215); the CPU version drives 16 address
lines. Nothing but this and the machine's own writes changes memory (DESIGN CHOICE, log 40). -/
def applyDmaWrite (pa : BitVec 28) (v : Byte) (s : State) : State :=
  if s.dma.ack then
    let a := match s.cfg.version with
      | .mpu => pa.toNat
      | .cpu => (pa.setWidth 16).toNat
    { s with mem := s.mem.set a v }
  else s

/-- One input of the platform. -/
def applyInput (inp : Input) (s : State) : State :=
  match inp with
  | .pins p => applyPins p s
  | .clocks n => applyClocks n s
  | .resetb => if s.isMpu then s else userReset s
  | .clearb => applyClearb s
  | .faultDetect la => applyFault la s
  | .dmaWrite pa v => applyDmaWrite pa v s
  | .ioData vs => { s with ioIn := s.ioIn ++ vs }

end Sys2Proof.Machine
end

