-- ==== Sys2Proof/Machine/Cut.lean ====
section
/-! DEFINITION. What lands inside an action of the machine: wait requests held to their limits (R943, R944), and the
parts from which Sys2Proof/Machine/Arrive.lean puts together an action with an input inside it: the order of its
transactions (R214), its memory writes, and the registers it updates (R1000; log 18, log 38, log 39). -/

namespace Sys2Proof.Machine

/-! ## The transactions of an action -/

/-- What a bus observer saw between two states, newest first. -/
def newEvents (s t : State) : List BusEvent := t.busLog.take (t.busLog.length - s.busLog.length)

/-- An I/O transaction. -/
def BusEvent.isIo : BusEvent → Bool
  | .ioRead _ _ | .ioWrite _ _ => true
  | _ => false

/-- An interrupt-acknowledge transaction. The spec does not say whether `wait_iack` is sampled in the acknowledge of
NMI, which R19 names as a kind of its own, or in that of an illegal-instruction trap: the model counts all of them
(DESIGN CHOICE, log 18). -/
def BusEvent.isAck : BusEvent → Bool
  | .intAck _ _ | .nmiAck | .illegalAck2 | .illegalAck3 => true
  | _ => false

/-- The action from `s` to `t` has an I/O transaction. -/
def madeIo (s t : State) : Bool := (newEvents s t).any BusEvent.isIo

/-- The action from `s` to `t` has an interrupt-acknowledge transaction. -/
def madeAck (s t : State) : Bool := (newEvents s t).any BusEvent.isAck

/-- The action from `s` to `t` has a transaction in which the request is sampled (R222, R943). Every action reads
or writes memory but a DMA grant, an idle cycle of Halt or Sleep, and a reset. -/
def sampled (k : WaitKind) (s t : State) : Bool :=
  match k with
  | .iack => madeAck s t
  | .io => madeIo s t
  | .mem _ _ => !s.fatal && !t.dma.ack && (s.run == .running || madeAck s t)

/-! ## Wait requests (R943, R944, U23) -/

/-- The pins at t1 of the transaction of a wait request, where they change to `p` after `n` transactions of the action
(R1016): an acknowledge or an I/O transaction comes first in its action (R214), and of a memory access the platform
says on which side of the change it falls. -/
def pinsAt (n : Nat) (p : Pins) (s : State) (k : WaitKind) : Pins :=
  match k with
  | .iack | .io => if n = 0 then p else s.pins
  | .mem after _ => if after then p else s.pins

/-- The limit of a wait request, from the pins at its t1 (R943). -/
def waitLimit (q : Pins) (k : WaitKind) : BitVec 5 :=
  match k with
  | .iack => q.iackWaitLim
  | .io => q.ioWaitLim
  | .mem _ _ => q.memWaitLim

/-- The request has a limit that ends it; the CPU version has none. -/
def limited (s : State) (q : WaitKind → Pins) (k : WaitKind) : Bool := s.isMpu && waitLimit (q k) k != 0#5

/-- What the bus holds for the reads of memory that time out. -/
def lateBytes (s : State) (q : WaitKind → Pins) (held : List WaitKind) : List (BitVec 28 × Byte) :=
  held.filterMap fun k =>
    match k with
    | .mem _ bus => if limited s q k then bus else none
    | .iack | .io => none

/-- The requests for accesses that an input inside the action does not come before. -/
def heldBefore (held : List WaitKind) : List WaitKind :=
  held.filter fun k =>
    match k with
    | .mem after _ => !after
    | .iack | .io => true

/-- A wait request that is held for ever (U23). -/
def waitsForever (held : List WaitKind) (q : WaitKind → Pins) (s t : State) : Bool :=
  held.any fun k => sampled k s t && !limited s q k

/-- One time-out: the access completes as if the device had answered, and it is recorded (R944, R951). -/
def waitTimeout (s : State) : State :=
  State.emit .waitTimeout { s with sys := { s.sys with waitStat := bumpStatus s.cfg.waitAcc s.sys.waitStat } }

/-- The time-outs of the action from `s` to `t`, recorded in `u`. -/
def recordWaits (held : List WaitKind) (q : WaitKind → Pins) (s t u : State) : State :=
  (held.filter fun k => sampled k s t && limited s q k).foldl (fun v _ => waitTimeout v) u

/-! ## The registers an instruction updates -/

/-- A register that `resetb` leaves alone (R1001). -/
inductive Spot where
  | reg (r : R8)
  | flags
  | idx (y : Idx)
  | alt (r : R8)
  | altFlags
deriving DecidableEq, Repr

/-- The registers of a word register; SP is not among them, since the reset writes it. -/
def pairSpots : Pair → List Spot
  | .bc => [.reg .b, .reg .c]
  | .de => [.reg .d, .reg .e]
  | .hl => [.reg .h, .reg .l]
  | .af => [.reg .a, .flags]
  | .ix => [.idx .ix]
  | .iy => [.idx .iy]
  | .sp => []

/-- The registers an instruction updates, by its rule; `mpu` says whether the nine MPU instructions exist. -/
def updates (mpu : Bool) : Instr → List Spot
  | .addAR _ | .addAN _ | .addAM | .addAX _ _ | .adcAR _ | .adcAN _ | .adcAM | .adcAX _ _ | .subAR _ | .subAN _
  | .subAM | .subAX _ _ | .sbcAR _ | .sbcAN _ | .sbcAM | .sbcAX _ _ | .andAR _ | .andAN _ | .andAM | .andAX _ _
  | .xorAR _ | .xorAN _ | .xorAM | .xorAX _ _ | .orAR _ | .orAN _ | .orAM | .orAX _ _ | .neg | .cpl | .daa
  | .ldAI | .ldAR | .rlca | .rla | .rrca | .rra | .rld | .rrd => [.reg .a, .flags]
  | .cpAR _ | .cpAN _ | .cpAM | .cpAX _ _ | .incM | .incX _ _ | .decM | .decX _ _ | .ccf | .scf | .tstR _
  | .tstN _ | .tstM | .rlcM | .rlcX _ _ | .rrcM | .rrcX _ _ | .rlM | .rlX _ _ | .rrM | .rrX _ _ | .slaM
  | .slaX _ _ | .sraM | .sraX _ _ | .srlM | .srlX _ _ | .bitR _ _ | .bitM _ | .bitX _ _ _ | .tstioN _ => [.flags]
  | .incR r | .decR r | .rlcR r | .rrcR r | .rlR r | .rrR r | .slaR r | .sraR r | .srlR r | .inRC r
  | .in0RN r _ => [.reg r, .flags]
  | .ldRR r _ | .ldRN r _ | .ldRM r | .ldRX r _ _ | .resR _ r | .setR _ r => [.reg r]
  | .ldABc | .ldADe | .ldAMn _ | .inAN _ => [.reg .a]
  | .mltSs p | .incSs p | .decSs p | .ldDdMn p _ | .ldDdFromMn p _ | .popTt p => pairSpots p
  | .ldHlFromMn _ | .exSpHl => pairSpots .hl
  | .addHlSs _ | .adcHlSs _ | .sbcHlSs _ => .flags :: pairSpots .hl
  | .addIxXx _ => [.flags, .idx .ix]
  | .addIyYy _ => [.flags, .idx .iy]
  | .incXy y | .decXy y | .ldXyMn y _ | .ldXyFromMn y _ | .popXy y | .exSpXy y => [.idx y]
  | .exDeHl => pairSpots .de ++ pairSpots .hl
  | .exAfAf => [.reg .a, .flags, .alt .a, .altFlags]
  | .exx =>
    pairSpots .bc ++ pairSpots .de ++ pairSpots .hl ++ [R8.b, .c, .d, .e, .h, .l].map Spot.alt
  | .ldi | .ldir | .ldd | .lddr => .flags :: pairSpots .bc ++ pairSpots .de ++ pairSpots .hl
  | .cpi | .cpir | .cpd | .cpdr | .otim | .otimr | .otdm | .otdmr => .flags :: pairSpots .bc ++ pairSpots .hl
  | .ini | .inir | .ind | .indr | .outi | .otir | .outd | .otdr => .flags :: .reg .b :: pairSpots .hl
  | .djnz _ => [.reg .b]
  | .ldmMmu | .ldmMmuh | .ldmsMmu | .ldmFromMmu | .ldmFromMmuh | .ldmFromSys =>
    if mpu then pairSpots .hl else []
  | .ldMR _ | .ldXR _ _ _ | .ldMN _ | .ldXN _ _ _ | .ldBcA | .ldDeA | .ldMnA _ | .ldIA | .ldRA | .ldMnHl _
  | .ldMnSs _ _ | .ldMnXy _ _ | .ldSpHl | .ldSpXy _ | .pushTt _ | .pushXy _ | .resM _ | .resX _ _ _ | .setM _
  | .setX _ _ _ | .jpMn _ | .jpCcMn _ _ | .jpHl | .jpXy _ | .jrE _ | .jrCcE _ _ | .callMn _ | .callCcMn _ _
  | .ret | .retCc _ | .reti | .retn | .rst _ | .outNA _ | .outCR _ | .out0NR _ _ | .nop | .halt | .slp | .di
  | .ei | .im0 | .im1 | .im2 | .swap | .wdarm | .wdres => []

/-- The alternate bank as the active one, and back. -/
def swapBanks (s : State) : State := { s with reg := s.alt, alt := s.reg }

/-- One register copied from another state. -/
def takeSpot (p : Spot) (src s : State) : State :=
  match p with
  | .reg r => setR r (getR r src) s
  | .flags => { s with reg := { s.reg with f := src.reg.f } }
  | .idx y => setIdx y (getIdx y src) s
  | .alt r => swapBanks (setR r (getR r (swapBanks src)) (swapBanks s))
  | .altFlags => { s with alt := { s.alt with f := src.alt.f } }

/-- The registers with free values: those an instruction cut short was updating (R1000). -/
def spoil (ps : List Spot) (s : State) : State :=
  let src := freeRegisters s
  { ps.foldl (fun t p => takeSpot p src t) s with free := src.free }

/-- One register copied or not, as a free bit says. -/
def mixSpot (src s : State) (p : Spot) : State :=
  takeSpot p (if Config.freeBit s.free then src else s) { s with free := s.free + 1 }

/-- Each of the registers copied or not. -/
def mixSpots (ps : List Spot) (src s : State) : State := ps.foldl (mixSpot src) s

/-- Every register that `clearb` initialises (R124). -/
def clearedSpots : List Spot :=
  [.reg .a, .flags, .reg .b, .reg .c, .reg .d, .reg .e, .reg .h, .reg .l, .alt .a, .altFlags, .alt .b, .alt .c,
    .alt .d, .alt .e, .alt .h, .alt .l, .idx .ix, .idx .iy]

/-! ## The memory writes of an instruction -/

/-- The two bytes of a push, the higher address first (R14, R204). -/
def pushed (s : State) : List Word := [s.sp - 1#16, s.sp - 2#16]

/-- The sixteen bytes at HL (R864 to R866). -/
def tableAt (s : State) : List Word := (List.range 16).map fun k => regHl s + BitVec.ofNat 16 k

/-- The writes of an MPU instruction: `mpu` in the MPU, and in the CPU version those of `onCpu` (R870). -/
def mpuStores (s : State) (mpu : List Word) : List Word :=
  match s.cfg.version, s.cfg.mpuOnCpu with
  | .mpu, _ | .cpu, .absentEffect => mpu
  | .cpu, .illegal => pushed s

/-- The logical addresses of the memory writes of an instruction, in the order of its rule (R204, R214), an inhibited
write among them. -/
def stores (i : Instr) (s : State) : List Word :=
  match i with
  | .incM | .decM | .rlcM | .rrcM | .rlM | .rrM | .slaM | .sraM | .srlM | .rld | .rrd | .resM _ | .setM _ | .ldMR _
  | .ldMN _ | .ini | .inir | .ind | .indr => [regHl s]
  | .incX y d | .decX y d | .rlcX y d | .rrcX y d | .rlX y d | .rrX y d | .slaX y d | .sraX y d | .srlX y d
  | .resX _ y d | .setX _ y d | .ldXR y d _ | .ldXN y d _ => [eaIdx y d s]
  | .ldBcA => [regBc s]
  | .ldDeA | .ldi | .ldir | .ldd | .lddr => [regDe s]
  | .ldMnA mn => [mn]
  | .ldMnHl mn | .ldMnSs mn _ | .ldMnXy mn _ => [mn, mn + 1#16]
  | .exSpHl | .exSpXy _ => [s.sp, s.sp + 1#16]
  | .pushTt _ | .pushXy _ | .callMn _ | .rst _ => pushed s
  | .callCcMn cc _ => if condHolds cc s.reg.f then pushed s else []
  | .ldmFromMmu | .ldmFromMmuh | .ldmFromSys => mpuStores s (tableAt s)
  | .ldmMmu | .ldmMmuh | .ldmsMmu | .swap | .wdarm | .wdres => mpuStores s []
  | .addAR _ | .addAN _ | .addAM | .addAX _ _ | .adcAR _ | .adcAN _ | .adcAM | .adcAX _ _ | .subAR _ | .subAN _
  | .subAM | .subAX _ _ | .sbcAR _ | .sbcAN _ | .sbcAM | .sbcAX _ _ | .andAR _ | .andAN _ | .andAM | .andAX _ _
  | .xorAR _ | .xorAN _ | .xorAM | .xorAX _ _ | .orAR _ | .orAN _ | .orAM | .orAX _ _ | .neg | .cpl | .daa
  | .ldAI | .ldAR | .rlca | .rla | .rrca | .rra | .cpAR _ | .cpAN _ | .cpAM | .cpAX _ _ | .ccf | .scf | .tstR _
  | .tstN _ | .tstM | .bitR _ _ | .bitM _ | .bitX _ _ _ | .tstioN _ | .incR _ | .decR _ | .rlcR _ | .rrcR _
  | .rlR _ | .rrR _ | .slaR _ | .sraR _ | .srlR _ | .inRC _ | .in0RN _ _ | .ldRR _ _ | .ldRN _ _ | .ldRM _
  | .ldRX _ _ _ | .resR _ _ | .setR _ _ | .ldABc | .ldADe | .ldAMn _ | .inAN _ | .mltSs _ | .incSs _ | .decSs _
  | .ldDdMn _ _ | .ldDdFromMn _ _ | .popTt _ | .ldHlFromMn _ | .addHlSs _ | .adcHlSs _ | .sbcHlSs _ | .addIxXx _
  | .addIyYy _ | .incXy _ | .decXy _ | .ldXyMn _ _ | .ldXyFromMn _ _ | .popXy _ | .exDeHl | .exAfAf | .exx | .cpi
  | .cpir | .cpd | .cpdr | .otim | .otimr | .otdm | .otdmr | .outi | .otir | .outd | .otdr | .djnz _ | .ldIA
  | .ldRA | .ldSpHl | .ldSpXy _ | .jpMn _ | .jpCcMn _ _ | .jpHl | .jpXy _ | .jrE _ | .jrCcE _ _ | .ret | .retCc _
  | .reti | .retn | .outNA _ | .outCR _ | .out0NR _ _ | .nop | .halt | .slp | .di | .ei | .im0 | .im1 | .im2 => []

/-- The physical addresses. -/
def physical (s : State) (las : List Word) : List Nat := las.map fun la => (translate s la).toNat

/-! ## The order of an action's transactions (R214) -/

/-- The event comes before the memory writes of its action: an I/O transaction, an acknowledge, RETI (R711, R766,
R903, R912, R913). The pulses at the end of LDM (HL),SYS (R866) and of a reset come after them. -/
def BusEvent.leads : BusEvent → Bool
  | .ioRead _ _ | .ioWrite _ _ | .intAck _ _ | .nmiAck | .illegalAck2 | .illegalAck3 | .retiTran => true
  | .extStatRd | .drqTimeout | .waitTimeout | .wdtTimeout | .rtiPulse | .resetOut | .faultDetect => false

/-- How many recorded transactions the action from `s` to `t` makes, with memory writes at the addresses `las`. -/
def transactions (las : List Word) (s t : State) : Nat := (newEvents s t).length + las.length

/-- The memory writes among the first `n` transactions of the action from `s` to `t`. No action makes more than one
transaction that leads. -/
def writesBefore (n : Nat) (s t : State) : Nat := if (newEvents s t).any BusEvent.leads then n - 1 else n

/-- The event of the action from `s` to `t`, which has `w` memory writes, is among its first `n` transactions. -/
def happened (n w : Nat) (s t : State) (e : BusEvent) : Bool :=
  if e.leads then decide (0 < n) else decide (w < writesBefore n s t)

/-- The events of that action among its first `n` transactions, newest first. -/
def eventsBefore (n w : Nat) (s t : State) : List BusEvent := (newEvents s t).filter (happened n w s t)

/-! ## Memory writes done and not done -/

/-- The bytes of another memory at these addresses, written here. -/
def copyBytes (src : Memory) (as : List Nat) (m : Memory) : Memory := as.foldl (fun m a => m.set a (src.get a)) m

/-- `wr_inh` as each memory write of an action sees it at its own t1 (R1016), where it changes after `k` of them: the
addresses, none of which the action writes twice. -/
def splitInhibit (s : State) (k : Nat) (las : List Word) (old new : List AddrRange) : List AddrRange :=
  let pas := las.map (translate s)
  ((pas.take k).filter (inRanges old) ++ (pas.drop k).filter (inRanges new)).map fun pa => ⟨pa, pa⟩

/-- Another level of `wr_inh`. -/
def withInhibit (w : List AddrRange) (s : State) : State := { s with pins := { s.pins with wrInh := w } }

/-! ## An action cut short (R1000) -/

/-- The status latches of LDM (HL),SYS, from `s` to `t`, after `k` of its sixteen writes at the addresses `las` and
before its clearing (R866): the trap of an inhibited write among the `k` is recorded, and nothing is cleared. -/
def unclearedSys (k : Nat) (las : List Word) (s t : State) : SysStat :=
  { s.sys with
    wpTrap := s.sys.wpTrap || (las.take k).any (writeInhibited s)
    trapLog := t.sys.trapLog
    trapPhys := t.sys.trapPhys }

/-- The status latches of the action from `s` to `t`, cut short after `n` transactions, where an inhibited write after
the cut has recorded nothing in `t`. What a trap has recorded by then stays, all of it (R908, R1003). An illegal opcode
or an inhibited fetch is recorded at the latest with the first transaction; where none has been made, it is recorded
or not, as one free bit says, and so is the clearing of LDM (HL),SYS between its last write and its pulse (DESIGN
CHOICE, log 38). -/
def cutSys (n : Nat) (las : List Word) (s t : State) : SysStat :=
  let k := writesBefore n s t
  if (newEvents s t).contains .extStatRd then
    if k < las.length ∨ (k = las.length ∧ Config.freeBit t.free = false) then unclearedSys k las s t else t.sys
  else if n = 0 ∧ Config.freeBit t.free = false then s.sys
  else t.sys

/-- The action from `s` to `t`, which writes memory at the addresses `las`, cut short after `n` transactions: those
have happened and no other, and a byte the platform has announced is taken only by a read that has happened. The
registers the action updates are free in `t` already, and the reset writes the rest. The exchange of the MMU contexts,
the last thing an action does (R862, R863), has not happened. -/
def cutShort (n : Nat) (las : List Word) (s t : State) : State :=
  { t with
    mem := copyBytes t.mem (physical s (las.take (writesBefore n s t))) s.mem
    sys := cutSys n las s t
    mmu := s.mmu
    mmuBuf := s.mmuBuf
    wdt := s.wdt
    pins := s.pins
    late := []
    busLog := eventsBefore n las.length s t ++ s.busLog
    ioIn := if 0 < n then t.ioIn else s.ioIn
    free := t.free + 1 }

/-- The input takes the machine out of the action in which it lands: a reset, or an upset (R1000, R962). -/
def cuts (inp : Input) (s : State) : Bool :=
  match inp with
  | .resetb => !s.isMpu
  | .clearb => s.isMpu
  | .pins p => s.isMpu && p.resetBus != s.pins.resetBus
  | .clocks n => wdtExpires n s
  | .faultDetect _ => true
  | .dmaWrite _ _ | .ioData _ => false

end Sys2Proof.Machine
end

