-- ==== Sys2Proof/WellFormed.lean ====
section
/-! DEFINITION. Which operand terms an encoding exists for: the word-register tables of R303 and the four
conditions of JR (R304). Every other operand has a value for every bit pattern of its field. -/

namespace Sys2Proof

/-- The dd/ss table of R303. -/
def Pair.inDd : Pair → Bool
  | .bc | .de | .hl | .sp => true
  | _ => false

/-- The tt table of R303 (PUSH, POP). -/
def Pair.inTt : Pair → Bool
  | .bc | .de | .hl | .af => true
  | _ => false

/-- The xx table of R303 (ADD IX,xx). -/
def Pair.inXx : Pair → Bool
  | .bc | .de | .ix | .sp => true
  | _ => false

/-- The yy table of R303 (ADD IY,yy). -/
def Pair.inYy : Pair → Bool
  | .bc | .de | .iy | .sp => true
  | _ => false

/-- The 2-bit condition field of JR cc (R304). -/
def Cond.inJr : Cond → Bool
  | .nz | .z | .nc | .c => true
  | _ => false

/-- The instruction has an encoding. -/
def Instr.wellFormed : Instr → Bool
  | .mltSs p | .addHlSs p | .adcHlSs p | .sbcHlSs p | .incSs p | .decSs p => p.inDd
  | .ldDdMn p _ | .ldDdFromMn p _ | .ldMnSs _ p => p.inDd
  | .addIxXx p => p.inXx
  | .addIyYy p => p.inYy
  | .pushTt p | .popTt p => p.inTt
  | .jrCcE cc _ => cc.inJr
  | .addAR _ | .addAN _ | .addAM | .addAX _ _ | .adcAR _ | .adcAN _ | .adcAM | .adcAX _ _ | .subAR _ | .subAN _
  | .subAM | .subAX _ _ | .sbcAR _ | .sbcAN _ | .sbcAM | .sbcAX _ _ | .andAR _ | .andAN _ | .andAM | .andAX _ _
  | .xorAR _ | .xorAN _ | .xorAM | .xorAX _ _ | .orAR _ | .orAN _ | .orAM | .orAX _ _ | .cpAR _ | .cpAN _ | .cpAM
  | .cpAX _ _ | .incR _ | .incM | .incX _ _ | .decR _ | .decM | .decX _ _ | .neg | .cpl | .daa | .ccf | .scf
  | .tstR _ | .tstN _ | .tstM | .incXy _ | .decXy _ | .ldRR _ _ | .ldRN _ _ | .ldRM _ | .ldRX _ _ _ | .ldMR _
  | .ldXR _ _ _ | .ldMN _ | .ldXN _ _ _ | .ldABc | .ldADe | .ldAMn _ | .ldBcA | .ldDeA | .ldMnA _ | .ldAI | .ldAR
  | .ldIA | .ldRA | .ldXyMn _ _ | .ldHlFromMn _ | .ldXyFromMn _ _ | .ldMnHl _ | .ldMnXy _ _ | .ldSpHl | .ldSpXy _
  | .pushXy _ | .popXy _ | .exDeHl | .exAfAf | .exx | .exSpHl | .exSpXy _ | .ldi | .ldir | .ldd | .lddr | .cpi
  | .cpir | .cpd | .cpdr | .rlca | .rla | .rrca | .rra | .rlcR _ | .rlcM | .rlcX _ _ | .rrcR _ | .rrcM
  | .rrcX _ _ | .rlR _ | .rlM | .rlX _ _ | .rrR _ | .rrM | .rrX _ _ | .slaR _ | .slaM | .slaX _ _ | .sraR _
  | .sraM | .sraX _ _ | .srlR _ | .srlM | .srlX _ _ | .rld | .rrd | .bitR _ _ | .bitM _ | .bitX _ _ _ | .resR _ _
  | .resM _ | .resX _ _ _ | .setR _ _ | .setM _ | .setX _ _ _ | .jpMn _ | .jpCcMn _ _ | .jpHl | .jpXy _ | .jrE _
  | .djnz _ | .callMn _ | .callCcMn _ _ | .ret | .retCc _ | .reti | .retn | .rst _ | .inAN _ | .inRC _
  | .in0RN _ _ | .outNA _ | .outCR _ | .out0NR _ _ | .ini | .inir | .ind | .indr | .outi | .otir | .outd | .otdr
  | .otim | .otimr | .otdm | .otdmr | .tstioN _ | .nop | .halt | .slp | .di | .ei | .im0 | .im1 | .im2 | .ldmMmu
  | .ldmMmuh | .ldmsMmu | .swap | .ldmFromMmu | .ldmFromMmuh | .ldmFromSys | .wdarm | .wdres => true

end Sys2Proof
end

