-- ==== Sys2Proof/Decode.lean ====
section
/-! DEFINITION. The decoder (R311 to R315), total on any four bytes and rejecting by name (R316), and after it
the encoder, from the encoding column of spec/opcode_table.json. -/

namespace Sys2Proof

open Sys2Proof.Machine

/-- What four bytes in fetch order are. -/
inductive Decoded where
  /-- A defined instruction. -/
  | instr (i : Instr)
  /-- An undefined second byte after CB, DD, ED or FD (R316): the trap IllegalInstruction2. -/
  | illegal2
  /-- An undefined final byte of DD CB d op or FD CB d op (R316): the trap IllegalInstruction3. -/
  | illegal3
deriving DecidableEq, Repr

/-! ## Fields -/

/-- The register field rrr (R302); 110 is no register (R317). -/
def R8.ofCode (c : BitVec 3) : Option R8 :=
  match c.toNat with
  | 0 => some .b
  | 1 => some .c
  | 2 => some .d
  | 3 => some .e
  | 4 => some .h
  | 5 => some .l
  | 7 => some .a
  | _ => none

/-- The register code of R302. -/
def R8.code : R8 → BitVec 3
  | .b => 0b000#3
  | .c => 0b001#3
  | .d => 0b010#3
  | .e => 0b011#3
  | .h => 0b100#3
  | .l => 0b101#3
  | .a => 0b111#3

/-- The dd/ss table of R303. -/
def Pair.ofDd (c : BitVec 2) : Pair :=
  match c.toNat with
  | 0 => .bc
  | 1 => .de
  | 2 => .hl
  | _ => .sp

/-- The tt table of R303. -/
def Pair.ofTt (c : BitVec 2) : Pair :=
  match c.toNat with
  | 0 => .bc
  | 1 => .de
  | 2 => .hl
  | _ => .af

/-- The xx and yy tables of R303: code 10 is the index register of the instruction. -/
def Pair.ofXy (y : Idx) (c : BitVec 2) : Pair :=
  match c.toNat with
  | 0 => .bc
  | 1 => .de
  | 2 => (match y with | .ix => .ix | .iy => .iy)
  | _ => .sp

/-- The code of a word register in the tables of R303 that list it. -/
def Pair.code : Pair → BitVec 2
  | .bc => 0b00#2
  | .de => 0b01#2
  | .hl | .ix | .iy => 0b10#2
  | .sp | .af => 0b11#2

/-- The bit y of an index first byte (R310). -/
def Idx.code : Idx → BitVec 1
  | .ix => 0b0#1
  | .iy => 0b1#1

/-- The condition field fff (R304). -/
def Cond.ofCode (c : BitVec 3) : Cond :=
  match c.toNat with
  | 0 => .nz
  | 1 => .z
  | 2 => .nc
  | 3 => .c
  | 4 => .po
  | 5 => .pe
  | 6 => .p
  | _ => .m

/-- The condition code of R304. -/
def Cond.code : Cond → BitVec 3
  | .nz => 0b000#3
  | .z => 0b001#3
  | .nc => 0b010#3
  | .c => 0b011#3
  | .po => 0b100#3
  | .pe => 0b101#3
  | .p => 0b110#3
  | .m => 0b111#3

/-- The register form of an instruction, or its (HL) form when the field is 110 (R317). -/
def regOrMem (c : BitVec 3) (f : R8 → Instr) (m : Instr) : Instr :=
  match R8.ofCode c with
  | some r => f r
  | none => m

/-- The register form of an instruction of the ED or index page; 110 is undefined there (R313, R314). -/
def regOnly (c : BitVec 3) (f : R8 → Instr) : Decoded :=
  match R8.ofCode c with
  | some r => .instr (f r)
  | none => .illegal2

/-! ## The first-byte page (R311) -/

/-- `00 yyy zzz` of R311. -/
def decode00 (y z : BitVec 3) (b1 b2 : Byte) : Instr :=
  let p := Pair.ofDd (y.extractLsb' 1 2)
  let odd := y.getLsbD 0
  let mn := mk16 b2 b1
  match z.toNat with
  | 0 =>
    match y.toNat with
    | 0 => .nop
    | 1 => .exAfAf
    | 2 => .djnz b1
    | 3 => .jrE b1
    | _ => .jrCcE (Cond.ofCode (y &&& 0b011#3)) b1
  | 1 => if odd then .addHlSs p else .ldDdMn p mn
  | 2 =>
    match y.toNat with
    | 0 => .ldBcA
    | 1 => .ldABc
    | 2 => .ldDeA
    | 3 => .ldADe
    | 4 => .ldMnHl mn
    | 5 => .ldHlFromMn mn
    | 6 => .ldMnA mn
    | _ => .ldAMn mn
  | 3 => if odd then .decSs p else .incSs p
  | 4 => regOrMem y .incR .incM
  | 5 => regOrMem y .decR .decM
  | 6 => regOrMem y (fun r => .ldRN r b1) (.ldMN b1)
  | _ =>
    match y.toNat with
    | 0 => .rlca
    | 1 => .rrca
    | 2 => .rla
    | 3 => .rra
    | 4 => .daa
    | 5 => .cpl
    | 6 => .scf
    | _ => .ccf

/-- `01 yyy zzz` of R311: the register loads, and HALT in the slot 01 110 110. -/
def decode01 (y z : BitVec 3) : Instr :=
  match R8.ofCode y, R8.ofCode z with
  | some r, some q => .ldRR r q
  | some r, none => .ldRM r
  | none, some q => .ldMR q
  | none, none => .halt

/-- `10 yyy zzz` of R311: the accumulator group (R500). -/
def decode10 (y z : BitVec 3) : Instr :=
  match y.toNat with
  | 0 => regOrMem z .addAR .addAM
  | 1 => regOrMem z .adcAR .adcAM
  | 2 => regOrMem z .subAR .subAM
  | 3 => regOrMem z .sbcAR .sbcAM
  | 4 => regOrMem z .andAR .andAM
  | 5 => regOrMem z .xorAR .xorAM
  | 6 => regOrMem z .orAR .orAM
  | _ => regOrMem z .cpAR .cpAM

/-- `11 yyy zzz` of R311. The four prefix bytes are caught before this function; their slots repeat a
neighbour and are never reached. -/
def decode11 (y z : BitVec 3) (b1 b2 : Byte) : Instr :=
  let p := Pair.ofTt (y.extractLsb' 1 2)
  let odd := y.getLsbD 0
  let mn := mk16 b2 b1
  match z.toNat with
  | 0 => .retCc (Cond.ofCode y)
  | 1 =>
    match y.toNat with
    | 1 => .ret
    | 3 => .exx
    | 5 => .jpHl
    | 7 => .ldSpHl
    | _ => .popTt p
  | 2 => .jpCcMn (Cond.ofCode y) mn
  | 3 =>
    match y.toNat with
    | 2 => .outNA b1
    | 3 => .inAN b1
    | 4 => .exSpHl
    | 5 => .exDeHl
    | 6 => .di
    | 7 => .ei
    | _ => .jpMn mn
  | 4 => .callCcMn (Cond.ofCode y) mn
  | 5 => if odd then .callMn mn else .pushTt p
  | 6 =>
    match y.toNat with
    | 0 => .addAN b1
    | 1 => .adcAN b1
    | 2 => .subAN b1
    | 3 => .sbcAN b1
    | 4 => .andAN b1
    | 5 => .xorAN b1
    | 6 => .orAN b1
    | _ => .cpAN b1
  | _ => .rst y

/-- A first byte that is no prefix byte; every one is assigned (R311). -/
def decodeMain (b0 b1 b2 : Byte) : Instr :=
  let y := b0.extractLsb' 3 3
  let z := b0.extractLsb' 0 3
  match (b0.extractLsb' 6 2).toNat with
  | 0 => decode00 y z b1 b2
  | 1 => decode01 y z
  | 2 => decode10 y z
  | _ => decode11 y z b1 b2

/-! ## The CB page (R312) -/

/-- The second byte after CB. -/
def decodeCb (b1 : Byte) : Decoded :=
  let y := b1.extractLsb' 3 3
  let z := b1.extractLsb' 0 3
  match (b1.extractLsb' 6 2).toNat with
  | 0 =>
    match y.toNat with
    | 0 => .instr (regOrMem z .rlcR .rlcM)
    | 1 => .instr (regOrMem z .rrcR .rrcM)
    | 2 => .instr (regOrMem z .rlR .rlM)
    | 3 => .instr (regOrMem z .rrR .rrM)
    | 4 => .instr (regOrMem z .slaR .slaM)
    | 5 => .instr (regOrMem z .sraR .sraM)
    | 7 => .instr (regOrMem z .srlR .srlM)
    | _ => .illegal2
  | 1 => .instr (regOrMem z (.bitR y) (.bitM y))
  | 2 => .instr (regOrMem z (.resR y) (.resM y))
  | _ => .instr (regOrMem z (.setR y) (.setM y))

/-! ## The ED page (R313) -/

/-- `00 yyy zzz` after ED: IN0, OUT0, TST. -/
def decodeEd0 (y z : BitVec 3) (b2 : Byte) : Decoded :=
  match z.toNat with
  | 0 => regOnly y (fun r => .in0RN r b2)
  | 1 => regOnly y (fun r => .out0NR b2 r)
  | 4 => .instr (regOrMem y .tstR .tstM)
  | _ => .illegal2

/-- `01 yyy zzz` after ED. -/
def decodeEd1 (y z : BitVec 3) (b2 b3 : Byte) : Decoded :=
  let p := Pair.ofDd (y.extractLsb' 1 2)
  let odd := y.getLsbD 0
  let mn := mk16 b3 b2
  match z.toNat with
  | 0 => regOnly y .inRC
  | 1 => regOnly y .outCR
  | 2 => .instr (if odd then .adcHlSs p else .sbcHlSs p)
  | 3 => .instr (if odd then .ldDdFromMn p mn else .ldMnSs mn p)
  | 4 =>
    if odd then .instr (.mltSs p)
    else
      match y.toNat with
      | 0 => .instr .neg
      | 4 => .instr (.tstN b2)
      | 6 => .instr (.tstioN b2)
      | _ => .illegal2
  | 5 =>
    match y.toNat with
    | 0 => .instr .retn
    | 1 => .instr .reti
    | _ => .illegal2
  | 6 =>
    match y.toNat with
    | 0 => .instr .im0
    | 2 => .instr .im1
    | 3 => .instr .im2
    | 5 => .instr .wdarm
    | 6 => .instr .slp
    | 7 => .instr .wdres
    | _ => .illegal2
  | _ =>
    match y.toNat with
    | 0 => .instr .ldIA
    | 1 => .instr .ldRA
    | 2 => .instr .ldAI
    | 3 => .instr .ldAR
    | 4 => .instr .rrd
    | 5 => .instr .rld
    | 7 => .instr .swap
    | _ => .illegal2

/-- `10 yyy zzz` after ED: the block instructions. -/
def decodeEd2 (b1 : Byte) : Decoded :=
  match b1.toNat with
  | 0x80 => .instr .ldmMmu
  | 0x82 => .instr .ldmFromMmu
  | 0x83 => .instr .otim
  | 0x88 => .instr .ldmsMmu
  | 0x8B => .instr .otdm
  | 0x90 => .instr .ldmMmuh
  | 0x92 => .instr .ldmFromMmuh
  | 0x93 => .instr .otimr
  | 0x9A => .instr .ldmFromSys
  | 0x9B => .instr .otdmr
  | 0xA0 => .instr .ldi
  | 0xA1 => .instr .cpi
  | 0xA2 => .instr .ini
  | 0xA3 => .instr .outi
  | 0xA8 => .instr .ldd
  | 0xA9 => .instr .cpd
  | 0xAA => .instr .ind
  | 0xAB => .instr .outd
  | 0xB0 => .instr .ldir
  | 0xB1 => .instr .cpir
  | 0xB2 => .instr .inir
  | 0xB3 => .instr .otir
  | 0xB8 => .instr .lddr
  | 0xB9 => .instr .cpdr
  | 0xBA => .instr .indr
  | 0xBB => .instr .otdr
  | _ => .illegal2

/-- The second byte after ED. -/
def decodeEd (b1 b2 b3 : Byte) : Decoded :=
  let y := b1.extractLsb' 3 3
  let z := b1.extractLsb' 0 3
  match (b1.extractLsb' 6 2).toNat with
  | 0 => decodeEd0 y z b2
  | 1 => decodeEd1 y z b2 b3
  | 2 => decodeEd2 b1
  | _ => .illegal2

/-! ## The index pages (R314, R315) -/

/-- The final byte after DD CB d or FD CB d (R315). -/
def decodeXyCb (y : Idx) (d op : Byte) : Decoded :=
  let k := op.extractLsb' 3 3
  if op.extractLsb' 0 3 = 0b110#3 then
    match (op.extractLsb' 6 2).toNat with
    | 0 =>
      match k.toNat with
      | 0 => .instr (.rlcX y d)
      | 1 => .instr (.rrcX y d)
      | 2 => .instr (.rlX y d)
      | 3 => .instr (.rrX y d)
      | 4 => .instr (.slaX y d)
      | 5 => .instr (.sraX y d)
      | 7 => .instr (.srlX y d)
      | _ => .illegal3
    | 1 => .instr (.bitX k y d)
    | 2 => .instr (.resX k y d)
    | _ => .instr (.setX k y d)
  else .illegal3

/-- The second byte after DD or FD (R314). -/
def decodeXy (y : Idx) (b1 b2 b3 : Byte) : Decoded :=
  let mn := mk16 b3 b2
  match b1.toNat with
  | 0x21 => .instr (.ldXyMn y mn)
  | 0x22 => .instr (.ldMnXy mn y)
  | 0x23 => .instr (.incXy y)
  | 0x2A => .instr (.ldXyFromMn y mn)
  | 0x2B => .instr (.decXy y)
  | 0x34 => .instr (.incX y b2)
  | 0x35 => .instr (.decX y b2)
  | 0x36 => .instr (.ldXN y b2 b3)
  | 0x86 => .instr (.addAX y b2)
  | 0x8E => .instr (.adcAX y b2)
  | 0x96 => .instr (.subAX y b2)
  | 0x9E => .instr (.sbcAX y b2)
  | 0xA6 => .instr (.andAX y b2)
  | 0xAE => .instr (.xorAX y b2)
  | 0xB6 => .instr (.orAX y b2)
  | 0xBE => .instr (.cpAX y b2)
  | 0xCB => decodeXyCb y b2 b3
  | 0xE1 => .instr (.popXy y)
  | 0xE3 => .instr (.exSpXy y)
  | 0xE5 => .instr (.pushXy y)
  | 0xE9 => .instr (.jpXy y)
  | 0xF9 => .instr (.ldSpXy y)
  | _ =>
    let k := b1.extractLsb' 3 3
    let z := b1.extractLsb' 0 3
    match (b1.extractLsb' 6 2).toNat with
    | 0 =>
      if b1.extractLsb' 0 4 = 0b1001#4 then
        let p := Pair.ofXy y (b1.extractLsb' 4 2)
        .instr (match y with | .ix => .addIxXx p | .iy => .addIyYy p)
      else .illegal2
    | 1 =>
      if z = 0b110#3 then regOnly k (fun r => .ldRX r y b2)
      else if k = 0b110#3 then regOnly z (fun r => .ldXR y b2 r)
      else .illegal2
    | _ => .illegal2

/-! ## The decoder -/

/-- The instruction that four bytes in fetch order begin with. Bytes past its length are ignored. -/
def decode (b0 b1 b2 b3 : Byte) : Decoded :=
  match b0.toNat with
  | 0xCB => decodeCb b1
  | 0xDD => decodeXy .ix b1 b2 b3
  | 0xED => decodeEd b1 b2 b3
  | 0xFD => decodeXy .iy b1 b2 b3
  | _ => .instr (decodeMain b0 b1 b2)

/-- The four prefix bytes (R310). -/
def isPrefixByte (b : Byte) : Bool :=
  b == 0xCB#8 || b == 0xDD#8 || b == 0xED#8 || b == 0xFD#8

/-! ## The encoder -/

/-- The bytes of a well-formed instruction in fetch order, from the encoding column of spec/opcode_table.json. -/
def encode : Instr → List Byte
  | .addAR r => [0b10000#5 ++ r.code]
  | .addAN n => [0b11000110#8, n]
  | .addAM => [0b10000110#8]
  | .addAX y d => [0b11#2 ++ y.code ++ 0b11101#5, 0b10000110#8, d]
  | .adcAR r => [0b10001#5 ++ r.code]
  | .adcAN n => [0b11001110#8, n]
  | .adcAM => [0b10001110#8]
  | .adcAX y d => [0b11#2 ++ y.code ++ 0b11101#5, 0b10001110#8, d]
  | .subAR r => [0b10010#5 ++ r.code]
  | .subAN n => [0b11010110#8, n]
  | .subAM => [0b10010110#8]
  | .subAX y d => [0b11#2 ++ y.code ++ 0b11101#5, 0b10010110#8, d]
  | .sbcAR r => [0b10011#5 ++ r.code]
  | .sbcAN n => [0b11011110#8, n]
  | .sbcAM => [0b10011110#8]
  | .sbcAX y d => [0b11#2 ++ y.code ++ 0b11101#5, 0b10011110#8, d]
  | .andAR r => [0b10100#5 ++ r.code]
  | .andAN n => [0b11100110#8, n]
  | .andAM => [0b10100110#8]
  | .andAX y d => [0b11#2 ++ y.code ++ 0b11101#5, 0b10100110#8, d]
  | .xorAR r => [0b10101#5 ++ r.code]
  | .xorAN n => [0b11101110#8, n]
  | .xorAM => [0b10101110#8]
  | .xorAX y d => [0b11#2 ++ y.code ++ 0b11101#5, 0b10101110#8, d]
  | .orAR r => [0b10110#5 ++ r.code]
  | .orAN n => [0b11110110#8, n]
  | .orAM => [0b10110110#8]
  | .orAX y d => [0b11#2 ++ y.code ++ 0b11101#5, 0b10110110#8, d]
  | .cpAR r => [0b10111#5 ++ r.code]
  | .cpAN n => [0b11111110#8, n]
  | .cpAM => [0b10111110#8]
  | .cpAX y d => [0b11#2 ++ y.code ++ 0b11101#5, 0b10111110#8, d]
  | .incR r => [0b00#2 ++ r.code ++ 0b100#3]
  | .incM => [0b00110100#8]
  | .incX y d => [0b11#2 ++ y.code ++ 0b11101#5, 0b00110100#8, d]
  | .decR r => [0b00#2 ++ r.code ++ 0b101#3]
  | .decM => [0b00110101#8]
  | .decX y d => [0b11#2 ++ y.code ++ 0b11101#5, 0b00110101#8, d]
  | .neg => [0b11101101#8, 0b01000100#8]
  | .cpl => [0b00101111#8]
  | .daa => [0b00100111#8]
  | .ccf => [0b00111111#8]
  | .scf => [0b00110111#8]
  | .tstR r => [0b11101101#8, 0b00#2 ++ r.code ++ 0b100#3]
  | .tstN n => [0b11101101#8, 0b01100100#8, n]
  | .tstM => [0b11101101#8, 0b00110100#8]
  | .mltSs p => [0b11101101#8, 0b01#2 ++ p.code ++ 0b1100#4]
  | .addHlSs p => [0b00#2 ++ p.code ++ 0b1001#4]
  | .addIxXx p => [0b11011101#8, 0b00#2 ++ p.code ++ 0b1001#4]
  | .addIyYy p => [0b11111101#8, 0b00#2 ++ p.code ++ 0b1001#4]
  | .adcHlSs p => [0b11101101#8, 0b01#2 ++ p.code ++ 0b1010#4]
  | .sbcHlSs p => [0b11101101#8, 0b01#2 ++ p.code ++ 0b0010#4]
  | .incSs p => [0b00#2 ++ p.code ++ 0b0011#4]
  | .incXy y => [0b11#2 ++ y.code ++ 0b11101#5, 0b00100011#8]
  | .decSs p => [0b00#2 ++ p.code ++ 0b1011#4]
  | .decXy y => [0b11#2 ++ y.code ++ 0b11101#5, 0b00101011#8]
  | .ldRR r q => [0b01#2 ++ r.code ++ q.code]
  | .ldRN r n => [0b00#2 ++ r.code ++ 0b110#3, n]
  | .ldRM r => [0b01#2 ++ r.code ++ 0b110#3]
  | .ldRX r y d => [0b11#2 ++ y.code ++ 0b11101#5, 0b01#2 ++ r.code ++ 0b110#3, d]
  | .ldMR r => [0b01110#5 ++ r.code]
  | .ldXR y d r => [0b11#2 ++ y.code ++ 0b11101#5, 0b01110#5 ++ r.code, d]
  | .ldMN n => [0b00110110#8, n]
  | .ldXN y d n => [0b11#2 ++ y.code ++ 0b11101#5, 0b00110110#8, d, n]
  | .ldABc => [0b00001010#8]
  | .ldADe => [0b00011010#8]
  | .ldAMn mn => [0b00111010#8, loByte mn, hiByte mn]
  | .ldBcA => [0b00000010#8]
  | .ldDeA => [0b00010010#8]
  | .ldMnA mn => [0b00110010#8, loByte mn, hiByte mn]
  | .ldAI => [0b11101101#8, 0b01010111#8]
  | .ldAR => [0b11101101#8, 0b01011111#8]
  | .ldIA => [0b11101101#8, 0b01000111#8]
  | .ldRA => [0b11101101#8, 0b01001111#8]
  | .ldDdMn p mn => [0b00#2 ++ p.code ++ 0b0001#4, loByte mn, hiByte mn]
  | .ldXyMn y mn => [0b11#2 ++ y.code ++ 0b11101#5, 0b00100001#8, loByte mn, hiByte mn]
  | .ldHlFromMn mn => [0b00101010#8, loByte mn, hiByte mn]
  | .ldDdFromMn p mn => [0b11101101#8, 0b01#2 ++ p.code ++ 0b1011#4, loByte mn, hiByte mn]
  | .ldXyFromMn y mn => [0b11#2 ++ y.code ++ 0b11101#5, 0b00101010#8, loByte mn, hiByte mn]
  | .ldMnHl mn => [0b00100010#8, loByte mn, hiByte mn]
  | .ldMnSs mn p => [0b11101101#8, 0b01#2 ++ p.code ++ 0b0011#4, loByte mn, hiByte mn]
  | .ldMnXy mn y => [0b11#2 ++ y.code ++ 0b11101#5, 0b00100010#8, loByte mn, hiByte mn]
  | .ldSpHl => [0b11111001#8]
  | .ldSpXy y => [0b11#2 ++ y.code ++ 0b11101#5, 0b11111001#8]
  | .pushTt p => [0b11#2 ++ p.code ++ 0b0101#4]
  | .pushXy y => [0b11#2 ++ y.code ++ 0b11101#5, 0b11100101#8]
  | .popTt p => [0b11#2 ++ p.code ++ 0b0001#4]
  | .popXy y => [0b11#2 ++ y.code ++ 0b11101#5, 0b11100001#8]
  | .exDeHl => [0b11101011#8]
  | .exAfAf => [0b00001000#8]
  | .exx => [0b11011001#8]
  | .exSpHl => [0b11100011#8]
  | .exSpXy y => [0b11#2 ++ y.code ++ 0b11101#5, 0b11100011#8]
  | .ldi => [0b11101101#8, 0b10100000#8]
  | .ldir => [0b11101101#8, 0b10110000#8]
  | .ldd => [0b11101101#8, 0b10101000#8]
  | .lddr => [0b11101101#8, 0b10111000#8]
  | .cpi => [0b11101101#8, 0b10100001#8]
  | .cpir => [0b11101101#8, 0b10110001#8]
  | .cpd => [0b11101101#8, 0b10101001#8]
  | .cpdr => [0b11101101#8, 0b10111001#8]
  | .rlca => [0b00000111#8]
  | .rla => [0b00010111#8]
  | .rrca => [0b00001111#8]
  | .rra => [0b00011111#8]
  | .rlcR r => [0b11001011#8, 0b00000#5 ++ r.code]
  | .rlcM => [0b11001011#8, 0b00000110#8]
  | .rlcX y d => [0b11#2 ++ y.code ++ 0b11101#5, 0b11001011#8, d, 0b00000110#8]
  | .rrcR r => [0b11001011#8, 0b00001#5 ++ r.code]
  | .rrcM => [0b11001011#8, 0b00001110#8]
  | .rrcX y d => [0b11#2 ++ y.code ++ 0b11101#5, 0b11001011#8, d, 0b00001110#8]
  | .rlR r => [0b11001011#8, 0b00010#5 ++ r.code]
  | .rlM => [0b11001011#8, 0b00010110#8]
  | .rlX y d => [0b11#2 ++ y.code ++ 0b11101#5, 0b11001011#8, d, 0b00010110#8]
  | .rrR r => [0b11001011#8, 0b00011#5 ++ r.code]
  | .rrM => [0b11001011#8, 0b00011110#8]
  | .rrX y d => [0b11#2 ++ y.code ++ 0b11101#5, 0b11001011#8, d, 0b00011110#8]
  | .slaR r => [0b11001011#8, 0b00100#5 ++ r.code]
  | .slaM => [0b11001011#8, 0b00100110#8]
  | .slaX y d => [0b11#2 ++ y.code ++ 0b11101#5, 0b11001011#8, d, 0b00100110#8]
  | .sraR r => [0b11001011#8, 0b00101#5 ++ r.code]
  | .sraM => [0b11001011#8, 0b00101110#8]
  | .sraX y d => [0b11#2 ++ y.code ++ 0b11101#5, 0b11001011#8, d, 0b00101110#8]
  | .srlR r => [0b11001011#8, 0b00111#5 ++ r.code]
  | .srlM => [0b11001011#8, 0b00111110#8]
  | .srlX y d => [0b11#2 ++ y.code ++ 0b11101#5, 0b11001011#8, d, 0b00111110#8]
  | .rld => [0b11101101#8, 0b01101111#8]
  | .rrd => [0b11101101#8, 0b01100111#8]
  | .bitR b r => [0b11001011#8, 0b01#2 ++ b ++ r.code]
  | .bitM b => [0b11001011#8, 0b01#2 ++ b ++ 0b110#3]
  | .bitX b y d => [0b11#2 ++ y.code ++ 0b11101#5, 0b11001011#8, d, 0b01#2 ++ b ++ 0b110#3]
  | .resR b r => [0b11001011#8, 0b10#2 ++ b ++ r.code]
  | .resM b => [0b11001011#8, 0b10#2 ++ b ++ 0b110#3]
  | .resX b y d => [0b11#2 ++ y.code ++ 0b11101#5, 0b11001011#8, d, 0b10#2 ++ b ++ 0b110#3]
  | .setR b r => [0b11001011#8, 0b11#2 ++ b ++ r.code]
  | .setM b => [0b11001011#8, 0b11#2 ++ b ++ 0b110#3]
  | .setX b y d => [0b11#2 ++ y.code ++ 0b11101#5, 0b11001011#8, d, 0b11#2 ++ b ++ 0b110#3]
  | .jpMn mn => [0b11000011#8, loByte mn, hiByte mn]
  | .jpCcMn cc mn => [0b11#2 ++ cc.code ++ 0b010#3, loByte mn, hiByte mn]
  | .jpHl => [0b11101001#8]
  | .jpXy y => [0b11#2 ++ y.code ++ 0b11101#5, 0b11101001#8]
  | .jrE e => [0b00011000#8, e]
  | .jrCcE cc e => [0b001#3 ++ cc.code.extractLsb' 0 2 ++ 0b000#3, e]
  | .djnz e => [0b00010000#8, e]
  | .callMn mn => [0b11001101#8, loByte mn, hiByte mn]
  | .callCcMn cc mn => [0b11#2 ++ cc.code ++ 0b100#3, loByte mn, hiByte mn]
  | .ret => [0b11001001#8]
  | .retCc cc => [0b11#2 ++ cc.code ++ 0b000#3]
  | .reti => [0b11101101#8, 0b01001101#8]
  | .retn => [0b11101101#8, 0b01000101#8]
  | .rst v => [0b11#2 ++ v ++ 0b111#3]
  | .inAN n => [0b11011011#8, n]
  | .inRC r => [0b11101101#8, 0b01#2 ++ r.code ++ 0b000#3]
  | .in0RN r n => [0b11101101#8, 0b00#2 ++ r.code ++ 0b000#3, n]
  | .outNA n => [0b11010011#8, n]
  | .outCR r => [0b11101101#8, 0b01#2 ++ r.code ++ 0b001#3]
  | .out0NR n r => [0b11101101#8, 0b00#2 ++ r.code ++ 0b001#3, n]
  | .ini => [0b11101101#8, 0b10100010#8]
  | .inir => [0b11101101#8, 0b10110010#8]
  | .ind => [0b11101101#8, 0b10101010#8]
  | .indr => [0b11101101#8, 0b10111010#8]
  | .outi => [0b11101101#8, 0b10100011#8]
  | .otir => [0b11101101#8, 0b10110011#8]
  | .outd => [0b11101101#8, 0b10101011#8]
  | .otdr => [0b11101101#8, 0b10111011#8]
  | .otim => [0b11101101#8, 0b10000011#8]
  | .otimr => [0b11101101#8, 0b10010011#8]
  | .otdm => [0b11101101#8, 0b10001011#8]
  | .otdmr => [0b11101101#8, 0b10011011#8]
  | .tstioN n => [0b11101101#8, 0b01110100#8, n]
  | .nop => [0b00000000#8]
  | .halt => [0b01110110#8]
  | .slp => [0b11101101#8, 0b01110110#8]
  | .di => [0b11110011#8]
  | .ei => [0b11111011#8]
  | .im0 => [0b11101101#8, 0b01000110#8]
  | .im1 => [0b11101101#8, 0b01010110#8]
  | .im2 => [0b11101101#8, 0b01011110#8]
  | .ldmMmu => [0b11101101#8, 0b10000000#8]
  | .ldmMmuh => [0b11101101#8, 0b10010000#8]
  | .ldmsMmu => [0b11101101#8, 0b10001000#8]
  | .swap => [0b11101101#8, 0b01111111#8]
  | .ldmFromMmu => [0b11101101#8, 0b10000010#8]
  | .ldmFromMmuh => [0b11101101#8, 0b10010010#8]
  | .ldmFromSys => [0b11101101#8, 0b10011010#8]
  | .wdarm => [0b11101101#8, 0b01101110#8]
  | .wdres => [0b11101101#8, 0b01111110#8]

/-- The length of an instruction in bytes (R300). -/
def Instr.length (i : Instr) : Nat := (encode i).length

/-! ## Words numbered as spec/opcode_table.json numbers them -/

/-- The `k` bytes of a `k`-byte number, most significant first: the table puts the first fetched byte on top
(R322). -/
def tableBytes : Nat → Nat → List Byte
  | 0, _ => []
  | k + 1, w => BitVec.ofNat 8 (w / 2 ^ (8 * k)) :: tableBytes k w

/-- What the decoder reads from bytes followed by bytes of zeros. -/
def decodeBytes (bs : List Byte) : Decoded :=
  decode (bs.getD 0 0#8) (bs.getD 1 0#8) (bs.getD 2 0#8) (bs.getD 3 0#8)

/-- The bytes in fetch order of an instruction whose `nbits` bits are `w`: the first byte most significant, as
R322 numbers them (log 23). -/
def instrBytes (nbits w : Nat) : List Byte := tableBytes ((nbits + 7) / 8) w

/-- The instruction the decoder reads from a word of spec/opcode_table.json. -/
def decodeTableWord (nbits w : Nat) : Option Instr :=
  match decodeBytes (instrBytes nbits w) with
  | .instr i => some i
  | _ => none

end Sys2Proof
end

