-- ==== Sys2Proof/Machine/Arith16.lean ====
section
/-! DEFINITION. 16-bit arithmetic (43_arith16.md): R560 to R567. -/

namespace Sys2Proof.Machine

/-- `ADD HL,ss` (R560). -/
def execAddHlSs (p : Pair) (s : State) : Result :=
  let o := add16 (regHl s) (getPair p s) false
  .next (writeFlags (flagsAdd16 o s.reg.f) (setPair .hl o.res (advance 1#16 s)))

/-- `ADD IX,xx` (R561). -/
def execAddIxXx (p : Pair) (s : State) : Result :=
  let o := add16 s.ix (getPair p s) false
  .next (writeFlags (flagsAdd16 o s.reg.f) (setPair .ix o.res (advance 2#16 s)))

/-- `ADD IY,yy` (R561). -/
def execAddIyYy (p : Pair) (s : State) : Result :=
  let o := add16 s.iy (getPair p s) false
  .next (writeFlags (flagsAdd16 o s.reg.f) (setPair .iy o.res (advance 2#16 s)))

/-- `ADC HL,ss` (R562). -/
def execAdcHlSs (p : Pair) (s : State) : Result :=
  let o := add16 (regHl s) (getPair p s) s.reg.f.c
  .next (writeFlags (flagsAdc16 o s.reg.f) (setPair .hl o.res (advance 2#16 s)))

/-- `SBC HL,ss` (R563). -/
def execSbcHlSs (p : Pair) (s : State) : Result :=
  let o := sub16 (regHl s) (getPair p s) s.reg.f.c
  .next (writeFlags (flagsSbc16 o s.reg.f) (setPair .hl o.res (advance 2#16 s)))

/-- `INC ss` (R564). -/
def execIncSs (p : Pair) (s : State) : Result :=
  .next (setPair p (getPair p s + 1#16) (advance 1#16 s))

/-- `INC IX` and `INC IY` (R565). -/
def execIncXy (y : Idx) (s : State) : Result :=
  .next (setIdx y (getIdx y s + 1#16) (advance 2#16 s))

/-- `DEC ss` (R566). -/
def execDecSs (p : Pair) (s : State) : Result :=
  .next (setPair p (getPair p s - 1#16) (advance 1#16 s))

/-- `DEC IX` and `DEC IY` (R567). -/
def execDecXy (y : Idx) (s : State) : Result :=
  .next (setIdx y (getIdx y s - 1#16) (advance 2#16 s))

end Sys2Proof.Machine
end

