-- ==== Sys2Proof/Machine/Arith8.lean ====
section
/-! DEFINITION. 8-bit arithmetic and logic (42_arith8.md): R500 to R520. -/

namespace Sys2Proof.Machine

/-! ## The accumulator operations, over a source byte (R500) -/

/-- Write A and the flags of an operation, the flags computed from those before. -/
def writeAcc (res : Byte) (f : Flags) (s : State) : State :=
  writeFlags f { s with reg := { s.reg with a := res } }

/-- ADD (R504). -/
def accAdd (src : Byte) (s : State) : State :=
  let o := add8 s.reg.a src false
  writeAcc o.res (flagsAdd o s.reg.f) s

/-- ADC (R505). -/
def accAdc (src : Byte) (s : State) : State :=
  let o := add8 s.reg.a src s.reg.f.c
  writeAcc o.res (flagsAdd o s.reg.f) s

/-- SUB (R506). -/
def accSub (src : Byte) (s : State) : State :=
  let o := sub8 s.reg.a src false
  writeAcc o.res (flagsSub o s.reg.f) s

/-- SBC (R507). -/
def accSbc (src : Byte) (s : State) : State :=
  let o := sub8 s.reg.a src s.reg.f.c
  writeAcc o.res (flagsSub o s.reg.f) s

/-- AND (R508). -/
def accAnd (src : Byte) (s : State) : State :=
  let res := s.reg.a &&& src
  writeAcc res (flagsAnd res s.reg.f) s

/-- XOR (R510). -/
def accXor (src : Byte) (s : State) : State :=
  let res := s.reg.a ^^^ src
  writeAcc res (flagsOr res s.reg.f) s

/-- OR (R509). -/
def accOr (src : Byte) (s : State) : State :=
  let res := s.reg.a ||| src
  writeAcc res (flagsOr res s.reg.f) s

/-- CP (R511): A is not written. -/
def accCp (src : Byte) (s : State) : State :=
  writeFlags (flagsSub (sub8 s.reg.a src false) s.reg.f) s

/-- TST (R519): A is not written. -/
def accTst (src : Byte) (s : State) : State := writeFlags (flagsAnd (s.reg.a &&& src) s.reg.f) s

/-! ## The accumulator group (R500: the four operand forms) -/

/-- `ADD A,r` (R504). -/
def execAddAR (r : R8) (s : State) : Result := .next (accAdd (getR r s) (advance 1#16 s))

/-- `ADD A,n` (R504). -/
def execAddAN (n : Byte) (s : State) : Result := .next (accAdd n (advance 2#16 s))

/-- `ADD A,(HL)` (R504). -/
def execAddAM (s : State) : Result := .next (accAdd (srcM s) (advance 1#16 s))

/-- `ADD A,(IX+d)` and `ADD A,(IY+d)` (R504). -/
def execAddAX (y : Idx) (d : Byte) (s : State) : Result := .next (accAdd (srcX y d s) (advance 3#16 s))

/-- `ADC A,r` (R505). -/
def execAdcAR (r : R8) (s : State) : Result := .next (accAdc (getR r s) (advance 1#16 s))

/-- `ADC A,n` (R505). -/
def execAdcAN (n : Byte) (s : State) : Result := .next (accAdc n (advance 2#16 s))

/-- `ADC A,(HL)` (R505). -/
def execAdcAM (s : State) : Result := .next (accAdc (srcM s) (advance 1#16 s))

/-- `ADC A,(IX+d)` and `ADC A,(IY+d)` (R505). -/
def execAdcAX (y : Idx) (d : Byte) (s : State) : Result := .next (accAdc (srcX y d s) (advance 3#16 s))

/-- `SUB A,r` (R506). -/
def execSubAR (r : R8) (s : State) : Result := .next (accSub (getR r s) (advance 1#16 s))

/-- `SUB A,n` (R506). -/
def execSubAN (n : Byte) (s : State) : Result := .next (accSub n (advance 2#16 s))

/-- `SUB A,(HL)` (R506). -/
def execSubAM (s : State) : Result := .next (accSub (srcM s) (advance 1#16 s))

/-- `SUB A,(IX+d)` and `SUB A,(IY+d)` (R506). -/
def execSubAX (y : Idx) (d : Byte) (s : State) : Result := .next (accSub (srcX y d s) (advance 3#16 s))

/-- `SBC A,r` (R507). -/
def execSbcAR (r : R8) (s : State) : Result := .next (accSbc (getR r s) (advance 1#16 s))

/-- `SBC A,n` (R507). -/
def execSbcAN (n : Byte) (s : State) : Result := .next (accSbc n (advance 2#16 s))

/-- `SBC A,(HL)` (R507). -/
def execSbcAM (s : State) : Result := .next (accSbc (srcM s) (advance 1#16 s))

/-- `SBC A,(IX+d)` and `SBC A,(IY+d)` (R507). -/
def execSbcAX (y : Idx) (d : Byte) (s : State) : Result := .next (accSbc (srcX y d s) (advance 3#16 s))

/-- `AND A,r` (R508). -/
def execAndAR (r : R8) (s : State) : Result := .next (accAnd (getR r s) (advance 1#16 s))

/-- `AND A,n` (R508). -/
def execAndAN (n : Byte) (s : State) : Result := .next (accAnd n (advance 2#16 s))

/-- `AND A,(HL)` (R508). -/
def execAndAM (s : State) : Result := .next (accAnd (srcM s) (advance 1#16 s))

/-- `AND A,(IX+d)` and `AND A,(IY+d)` (R508). -/
def execAndAX (y : Idx) (d : Byte) (s : State) : Result := .next (accAnd (srcX y d s) (advance 3#16 s))

/-- `XOR A,r` (R510). -/
def execXorAR (r : R8) (s : State) : Result := .next (accXor (getR r s) (advance 1#16 s))

/-- `XOR A,n` (R510). -/
def execXorAN (n : Byte) (s : State) : Result := .next (accXor n (advance 2#16 s))

/-- `XOR A,(HL)` (R510). -/
def execXorAM (s : State) : Result := .next (accXor (srcM s) (advance 1#16 s))

/-- `XOR A,(IX+d)` and `XOR A,(IY+d)` (R510). -/
def execXorAX (y : Idx) (d : Byte) (s : State) : Result := .next (accXor (srcX y d s) (advance 3#16 s))

/-- `OR A,r` (R509). -/
def execOrAR (r : R8) (s : State) : Result := .next (accOr (getR r s) (advance 1#16 s))

/-- `OR A,n` (R509). -/
def execOrAN (n : Byte) (s : State) : Result := .next (accOr n (advance 2#16 s))

/-- `OR A,(HL)` (R509). -/
def execOrAM (s : State) : Result := .next (accOr (srcM s) (advance 1#16 s))

/-- `OR A,(IX+d)` and `OR A,(IY+d)` (R509). -/
def execOrAX (y : Idx) (d : Byte) (s : State) : Result := .next (accOr (srcX y d s) (advance 3#16 s))

/-- `CP A,r` (R511). -/
def execCpAR (r : R8) (s : State) : Result := .next (accCp (getR r s) (advance 1#16 s))

/-- `CP A,n` (R511). -/
def execCpAN (n : Byte) (s : State) : Result := .next (accCp n (advance 2#16 s))

/-- `CP A,(HL)` (R511). -/
def execCpAM (s : State) : Result := .next (accCp (srcM s) (advance 1#16 s))

/-- `CP A,(IX+d)` and `CP A,(IY+d)` (R511). -/
def execCpAX (y : Idx) (d : Byte) (s : State) : Result := .next (accCp (srcX y d s) (advance 3#16 s))

/-! ## Increment and decrement (R502, R512, R513) -/

/-- The read-modify-write of INC at an address (R502). -/
def incAt (la : Word) (s : State) : State :=
  let o := add8 (readMem s la) 1#8 false
  writeFlags (flagsInc o s.reg.f) (writeMem .data la o.res s)

/-- `INC r` (R512). -/
def execIncR (r : R8) (s : State) : Result :=
  let o := add8 (getR r s) 1#8 false
  .next (writeFlags (flagsInc o s.reg.f) (setR r o.res (advance 1#16 s)))

/-- `INC (HL)` (R512). -/
def execIncM (s : State) : Result := .next (incAt (regHl s) (advance 1#16 s))

/-- `INC (IX+d)` and `INC (IY+d)` (R512). -/
def execIncX (y : Idx) (d : Byte) (s : State) : Result := .next (incAt (eaIdx y d s) (advance 3#16 s))

/-- The read-modify-write of DEC at an address (R502). -/
def decAt (la : Word) (s : State) : State :=
  let o := sub8 (readMem s la) 1#8 false
  writeFlags (flagsDec o s.reg.f) (writeMem .data la o.res s)

/-- `DEC r` (R513). -/
def execDecR (r : R8) (s : State) : Result :=
  let o := sub8 (getR r s) 1#8 false
  .next (writeFlags (flagsDec o s.reg.f) (setR r o.res (advance 1#16 s)))

/-- `DEC (HL)` (R513). -/
def execDecM (s : State) : Result := .next (decAt (regHl s) (advance 1#16 s))

/-- `DEC (IX+d)` and `DEC (IY+d)` (R513). -/
def execDecX (y : Idx) (d : Byte) (s : State) : Result := .next (decAt (eaIdx y d s) (advance 3#16 s))

/-! ## Accumulator and flag operations -/

/-- `NEG` (R514). -/
def execNeg (s : State) : Result :=
  let o := sub8 0#8 s.reg.a false
  .next (writeAcc o.res (flagsSub o s.reg.f) (advance 2#16 s))

/-- `CPL` (R515). -/
def execCpl (s : State) : Result :=
  .next (writeAcc (~~~s.reg.a) (flagsCpl s.reg.f) (advance 1#16 s))

/-- DAA with a result the rule gives: A, S, Z, P/V, C from it and H free (R516, log 11). -/
def daaKnown (added : Byte) (c : Bool) (s : State) : State :=
  let res := s.reg.a + added
  writeAcc res (flagsDaa res c (Config.freeBit s.free) s.reg.f) { s with free := s.free + 1 }

/-- DAA outside the table under `DAA_OUTSIDE_TABLE` = any: A, S, Z, H, P/V, C are free, N is unchanged (U10). -/
def daaUnknown (s : State) : State :=
  writeAcc (Config.freeByte s.free)
    { s.reg.f with
      s := Config.freeBit s.free
      z := Config.freeBit (s.free + 1)
      h := Config.freeBit (s.free + 2)
      pv := Config.freeBit (s.free + 3)
      c := Config.freeBit (s.free + 4) }
    { s with free := s.free + 5 }

/-- `DAA` (R516). -/
def execDaa (s : State) : Result :=
  match daaLookup s.reg.f s.reg.a with
  | some (added, c) => .next (daaKnown added c (advance 1#16 s))
  | none =>
    match s.cfg.daaOutside with
    | .any => .next (daaUnknown (advance 1#16 s))
    | .z80 =>
      .next (daaKnown (daaZ80 s.reg.f s.reg.a).1 (daaZ80 s.reg.f s.reg.a).2 (advance 1#16 s))

/-- `CCF` (R517). -/
def execCcf (s : State) : Result :=
  .next (writeFlags (flagsCcf s.cfg.ccfMode s.reg.f) (advance 1#16 s))

/-- `SCF` (R518). -/
def execScf (s : State) : Result := .next (writeFlags (flagsScf s.reg.f) (advance 1#16 s))

/-! ## Z180 additions -/

/-- `TST r` (R519). -/
def execTstR (r : R8) (s : State) : Result := .next (accTst (getR r s) (advance 2#16 s))

/-- `TST n` (R519). -/
def execTstN (n : Byte) (s : State) : Result := .next (accTst n (advance 3#16 s))

/-- `TST (HL)` (R519). -/
def execTstM (s : State) : Result := .next (accTst (srcM s) (advance 2#16 s))

/-- The product of the two halves of a word (R520). -/
def mulHalves (w : Word) : Word := zext16 (hiByte w) * zext16 (loByte w)

/-- `MLT ss` (R520). -/
def execMltSs (p : Pair) (s : State) : Result :=
  .next (setPair p (mulHalves (getPair p s)) (advance 2#16 s))

end Sys2Proof.Machine
end

