-- ==== Sys2Proof/Machine/Block.lean ====
section
/-! DEFINITION. Block transfer and block search (41_block.md): R450 to R458. -/

namespace Sys2Proof.Machine

/-! ## One iteration; PC is not moved (R458) -/

/-- The step of HL and DE: up or down by one. -/
def stepWord (up : Bool) (w : Word) : Word := if up then w + 1#16 else w - 1#16

/-- One byte from (HL) to (DE), the counters and the flags (R450, R452). -/
def transferStep (up : Bool) (s : State) : State :=
  let bc := regBc s - 1#16
  let stored := writeMem .data (regDe s) (srcM s) s
  writeFlags (flagsLdi bc s.reg.f)
    (setPair .bc bc (setPair .de (stepWord up (regDe s)) (setPair .hl (stepWord up (regHl s)) stored)))

/-- The compare of (HL) with A (R454). -/
def searchCompare (s : State) : Alu8 := sub8 s.reg.a (srcM s) false

/-- One compare, the counters and the flags (R454, R456). -/
def searchStep (up : Bool) (s : State) : State :=
  let bc := regBc s - 1#16
  writeFlags (flagsCpi (searchCompare s) bc s.reg.f)
    (setPair .bc bc (setPair .hl (stepWord up (regHl s)) s))

/-- BC is not 0 after the decrement: the repeat test of LDIR and LDDR. -/
def transferAgain (s : State) : Bool := regBc s - 1#16 != 0#16

/-- BC is not 0 after the decrement and the bytes differ: the repeat test of CPIR and CPDR. -/
def searchAgain (s : State) : Bool := regBc s - 1#16 != 0#16 && (searchCompare s).res != 0#8

/-! ## Block transfer -/

/-- `LDI` (R450). -/
def execLdi (s : State) : Result := .next (advance 2#16 (transferStep true s))

/-- `LDIR` (R451). -/
def execLdir (s : State) : Result :=
  .next (finishIteration (transferAgain s) .ldir (transferStep true s))

/-- `LDD` (R452). -/
def execLdd (s : State) : Result := .next (advance 2#16 (transferStep false s))

/-- `LDDR` (R453). -/
def execLddr (s : State) : Result :=
  .next (finishIteration (transferAgain s) .lddr (transferStep false s))

/-! ## Block search -/

/-- `CPI` (R454). -/
def execCpi (s : State) : Result := .next (advance 2#16 (searchStep true s))

/-- `CPIR` (R455). -/
def execCpir (s : State) : Result :=
  .next (finishIteration (searchAgain s) .cpir (searchStep true s))

/-- `CPD` (R456). -/
def execCpd (s : State) : Result := .next (advance 2#16 (searchStep false s))

/-- `CPDR` (R457). -/
def execCpdr (s : State) : Result :=
  .next (finishIteration (searchAgain s) .cpdr (searchStep false s))

end Sys2Proof.Machine
end

