-- ==== Sys2Proof/Machine/Control.lean ====
section
/-! DEFINITION. Jumps, calls, returns and restarts (45_control.md): R700 to R713. No flag is written. -/

namespace Sys2Proof.Machine

/-! ## Jumps -/

/-- `JP mn` (R701). -/
def execJpMn (mn : Word) (s : State) : Result := .next (s.setPc mn)

/-- `JP cc,mn` (R702). -/
def execJpCcMn (cc : Cond) (mn : Word) (s : State) : Result :=
  .next (if condHolds cc s.reg.f then s.setPc mn else advance 3#16 s)

/-- `JP (HL)` (R703): no memory is read. -/
def execJpHl (s : State) : Result := .next (s.setPc (regHl s))

/-- `JP (IX)` and `JP (IY)` (R703). -/
def execJpXy (y : Idx) (s : State) : Result := .next (s.setPc (getIdx y s))

/-- `JR e` (R704). -/
def execJrE (e : Byte) (s : State) : Result := .next (s.setPc (relTarget e (s.pc + 2#16)))

/-- `JR cc,e` (R705). -/
def execJrCcE (cc : Cond) (e : Byte) (s : State) : Result :=
  .next (if condHolds cc s.reg.f then s.setPc (relTarget e (s.pc + 2#16)) else advance 2#16 s)

/-- `DJNZ e` (R706). -/
def execDjnz (e : Byte) (s : State) : Result :=
  let b := s.reg.b - 1#8
  let t := setR .b b s
  .next (if b = 0#8 then advance 2#16 t else t.setPc (relTarget e (s.pc + 2#16)))

/-! ## Calls and returns -/

/-- Push the return address and go (R707, R713). -/
def callTo (ret target : Word) (s : State) : State := (push16 ret s).setPc target

/-- `CALL mn` (R707). -/
def execCallMn (mn : Word) (s : State) : Result := .next (callTo (s.pc + 3#16) mn s)

/-- `CALL cc,mn` (R708). -/
def execCallCcMn (cc : Cond) (mn : Word) (s : State) : Result :=
  .next (if condHolds cc s.reg.f then callTo (s.pc + 3#16) mn s else advance 3#16 s)

/-- `RET` (R709). -/
def execRet (s : State) : Result := .next (returnFrom s)

/-- `RET cc` (R710). -/
def execRetCc (cc : Cond) (s : State) : Result :=
  .next (if condHolds cc s.reg.f then returnFrom s else advance 1#16 s)

/-- `RETI` (R711): `reti_tran` is pulsed; in the MPU it ends the interrupt under service (R933). -/
def execReti (s : State) : Result := .next (retiPulse (returnFrom s))

/-- `RETN` (R712, C15). -/
def execRetn (s : State) : Result := .next { returnFrom s with iff1 := s.iff2 }

/-- `RST v` (R713). -/
def execRst (v : BitVec 3) (s : State) : Result := .next (callTo (s.pc + 1#16) (restartAddr v) s)

end Sys2Proof.Machine
end

