-- ==== Sys2Proof/Machine/Io.lean ====
section
/-! DEFINITION. Input and output (46_io.md): R760 to R780. Each transaction happens once, in order (R220). -/

namespace Sys2Proof.Machine

/-! ## Single transfers -/

/-- `IN A,(n)` (R760): the old A is the upper port byte. -/
def execInAN (n : Byte) (s : State) : Result :=
  .next (setR .a (ioAnswer s) (ioReadDone (portAn n s) (advance 2#16 s)))

/-- An input to a register, with its flags (R761, R762). -/
def inputReg (r : R8) (port : Word) (s : State) : State :=
  let v := ioAnswer s
  writeFlags (flagsIn v s.reg.f) (setR r v (ioReadDone port s))

/-- `IN r,(C)` (R761). -/
def execInRC (r : R8) (s : State) : Result := .next (inputReg r (regBc s) (advance 2#16 s))

/-- `IN0 r,(n)` (R762). -/
def execIn0RN (r : R8) (n : Byte) (s : State) : Result :=
  .next (inputReg r (portZero n) (advance 3#16 s))

/-- `OUT (n),A` (R763). -/
def execOutNA (n : Byte) (s : State) : Result :=
  .next (ioWrite (portAn n s) s.reg.a (advance 2#16 s))

/-- `OUT (C),r` (R764). -/
def execOutCR (r : R8) (s : State) : Result :=
  .next (ioWrite (regBc s) (getR r s) (advance 2#16 s))

/-- `OUT0 (n),r` (R765). -/
def execOut0NR (n : Byte) (r : R8) (s : State) : Result :=
  .next (ioWrite (portZero n) (getR r s) (advance 3#16 s))

/-- `TSTIO n` (R778). -/
def execTstioN (n : Byte) (s : State) : Result :=
  .next (writeFlags (flagsAnd (ioAnswer s &&& n) s.reg.f)
    (ioReadDone (portZero s.reg.c) (advance 3#16 s)))

/-! ## Block transfers: one iteration; PC is not moved (R458) -/

/-- HL moves up or down by one. -/
def moveHl (up : Bool) (s : State) : State :=
  setPair .hl (if up then regHl s + 1#16 else regHl s - 1#16) s

/-- B after its decrement is not 0: the repeat test of every repeating I/O instruction. -/
def ioAgain (s : State) : Bool := s.reg.b - 1#8 != 0#8

/-- One byte from port BC to (HL) (R766, R768). -/
def inputStep (up : Bool) (s : State) : State :=
  let b := s.reg.b - 1#8
  let stored := writeMem .data (regHl s) (ioAnswer s) (ioReadDone (regBc s) s)
  writeFlags (flagsBlockIo b s.reg.f) (moveHl up (setR .b b stored))

/-- One byte from (HL) to the port of R779 (R770, R772; flags by R779 (b), log 26). -/
def outputStep (up : Bool) (s : State) : State :=
  let b := s.reg.b - 1#8
  writeFlags (flagsBlockIo b s.reg.f)
    (moveHl up (setR .b b (ioWrite (portBlockOut s) (srcM s) s)))

/-- One byte from (HL) to the port of R780, which moves with HL (R774, R776). -/
def otimStep (up : Bool) (s : State) : State :=
  let v := srcM s
  let o := sub8 s.reg.b 1#8 false
  let c := if up then s.reg.c + 1#8 else s.reg.c - 1#8
  writeFlags (flagsOtim o v s.reg.f)
    (moveHl up (setR .c c (setR .b o.res (ioWrite (portOtim s) v s))))

/-! ## Block input -/

/-- `INI` (R766). -/
def execIni (s : State) : Result := .next (advance 2#16 (inputStep true s))

/-- `INIR` (R767). -/
def execInir (s : State) : Result := .next (finishIteration (ioAgain s) .inir (inputStep true s))

/-- `IND` (R768). -/
def execInd (s : State) : Result := .next (advance 2#16 (inputStep false s))

/-- `INDR` (R769). -/
def execIndr (s : State) : Result := .next (finishIteration (ioAgain s) .indr (inputStep false s))

/-! ## Block output -/

/-- `OUTI` (R770). -/
def execOuti (s : State) : Result := .next (advance 2#16 (outputStep true s))

/-- `OTIR` (R771). -/
def execOtir (s : State) : Result := .next (finishIteration (ioAgain s) .otir (outputStep true s))

/-- `OUTD` (R772). -/
def execOutd (s : State) : Result := .next (advance 2#16 (outputStep false s))

/-- `OTDR` (R773). -/
def execOtdr (s : State) : Result := .next (finishIteration (ioAgain s) .otdr (outputStep false s))

/-! ## Z180 block output -/

/-- `OTIM` (R774). -/
def execOtim (s : State) : Result := .next (advance 2#16 (otimStep true s))

/-- `OTIMR` (R775). -/
def execOtimr (s : State) : Result := .next (finishIteration (ioAgain s) .otimr (otimStep true s))

/-- `OTDM` (R776). -/
def execOtdm (s : State) : Result := .next (advance 2#16 (otimStep false s))

/-- `OTDMR` (R777). -/
def execOtdmr (s : State) : Result := .next (finishIteration (ioAgain s) .otdmr (otimStep false s))

end Sys2Proof.Machine
end

