-- ==== Sys2Proof/Machine/Load.lean ====
section
/-! DEFINITION. Loads, stack and exchanges (40_load_exchange.md): R400 to R432. -/

namespace Sys2Proof.Machine

/-! ## 8-bit loads -/

/-- `LD r,r'` (R400). -/
def execLdRR (r q : R8) (s : State) : Result := .next (setR r (getR q s) (advance 1#16 s))

/-- `LD r,n` (R401). -/
def execLdRN (r : R8) (n : Byte) (s : State) : Result := .next (setR r n (advance 2#16 s))

/-- `LD r,(HL)` (R402). -/
def execLdRM (r : R8) (s : State) : Result := .next (setR r (srcM s) (advance 1#16 s))

/-- `LD r,(IX+d)` and `LD r,(IY+d)` (R403). -/
def execLdRX (r : R8) (y : Idx) (d : Byte) (s : State) : Result :=
  .next (setR r (srcX y d s) (advance 3#16 s))

/-- `LD (HL),r` (R404). -/
def execLdMR (r : R8) (s : State) : Result :=
  .next (writeMem .data (regHl s) (getR r s) (advance 1#16 s))

/-- `LD (IX+d),r` and `LD (IY+d),r` (R405). -/
def execLdXR (y : Idx) (d : Byte) (r : R8) (s : State) : Result :=
  .next (writeMem .data (eaIdx y d s) (getR r s) (advance 3#16 s))

/-- `LD (HL),n` (R406). -/
def execLdMN (n : Byte) (s : State) : Result :=
  .next (writeMem .data (regHl s) n (advance 2#16 s))

/-- `LD (IX+d),n` and `LD (IY+d),n` (R407). -/
def execLdXN (y : Idx) (d n : Byte) (s : State) : Result :=
  .next (writeMem .data (eaIdx y d s) n (advance 4#16 s))

/-- `LD A,(BC)` (R408). -/
def execLdABc (s : State) : Result := .next (setR .a (readMem s (regBc s)) (advance 1#16 s))

/-- `LD A,(DE)` (R408). -/
def execLdADe (s : State) : Result := .next (setR .a (readMem s (regDe s)) (advance 1#16 s))

/-- `LD A,(mn)` (R409). -/
def execLdAMn (mn : Word) (s : State) : Result := .next (setR .a (readMem s mn) (advance 3#16 s))

/-- `LD (BC),A` (R410). -/
def execLdBcA (s : State) : Result := .next (writeMem .data (regBc s) s.reg.a (advance 1#16 s))

/-- `LD (DE),A` (R410). -/
def execLdDeA (s : State) : Result := .next (writeMem .data (regDe s) s.reg.a (advance 1#16 s))

/-- `LD (mn),A` (R411). -/
def execLdMnA (mn : Word) (s : State) : Result :=
  .next (writeMem .data mn s.reg.a (advance 3#16 s))

/-- A special register into A, with its flags (R412). -/
def loadSpecial (v : Byte) (s : State) : State :=
  writeFlags (flagsLdAI v s.iff2 s.reg.f) (setR .a v s)

/-- `LD A,I` (R412). -/
def execLdAI (s : State) : Result := .next (loadSpecial s.i (advance 2#16 s))

/-- `LD A,R` (R412). -/
def execLdAR (s : State) : Result := .next (loadSpecial s.r (advance 2#16 s))

/-- `LD I,A` (R413). -/
def execLdIA (s : State) : Result := .next { advance 2#16 s with i := s.reg.a }

/-- `LD R,A` (R413). -/
def execLdRA (s : State) : Result := .next { advance 2#16 s with r := s.reg.a }

/-! ## 16-bit loads -/

/-- `LD dd,mn` (R414). -/
def execLdDdMn (p : Pair) (mn : Word) (s : State) : Result := .next (setPair p mn (advance 3#16 s))

/-- `LD IX,mn` and `LD IY,mn` (R415). -/
def execLdXyMn (y : Idx) (mn : Word) (s : State) : Result := .next (setIdx y mn (advance 4#16 s))

/-- `LD HL,(mn)` (R416). -/
def execLdHlFromMn (mn : Word) (s : State) : Result :=
  .next (setPair .hl (readMem16 s mn) (advance 3#16 s))

/-- `LD dd,(mn)` (R417). -/
def execLdDdFromMn (p : Pair) (mn : Word) (s : State) : Result :=
  .next (setPair p (readMem16 s mn) (advance 4#16 s))

/-- `LD IX,(mn)` and `LD IY,(mn)` (R418). -/
def execLdXyFromMn (y : Idx) (mn : Word) (s : State) : Result :=
  .next (setIdx y (readMem16 s mn) (advance 4#16 s))

/-- `LD (mn),HL` (R419). -/
def execLdMnHl (mn : Word) (s : State) : Result :=
  .next (writeMem16 .data mn (regHl s) (advance 3#16 s))

/-- `LD (mn),ss` (R420). -/
def execLdMnSs (mn : Word) (p : Pair) (s : State) : Result :=
  .next (writeMem16 .data mn (getPair p s) (advance 4#16 s))

/-- `LD (mn),IX` and `LD (mn),IY` (R421). -/
def execLdMnXy (mn : Word) (y : Idx) (s : State) : Result :=
  .next (writeMem16 .data mn (getIdx y s) (advance 4#16 s))

/-- `LD SP,HL` (R422). -/
def execLdSpHl (s : State) : Result := .next { advance 1#16 s with sp := regHl s }

/-- `LD SP,IX` and `LD SP,IY` (R423). -/
def execLdSpXy (y : Idx) (s : State) : Result := .next { advance 2#16 s with sp := getIdx y s }

/-! ## Stack -/

/-- `PUSH tt` (R424). -/
def execPushTt (p : Pair) (s : State) : Result := .next (push16 (getPair p s) (advance 1#16 s))

/-- `PUSH IX` and `PUSH IY` (R425). -/
def execPushXy (y : Idx) (s : State) : Result := .next (push16 (getIdx y s) (advance 2#16 s))

/-- `POP tt` (R426). -/
def execPopTt (p : Pair) (s : State) : Result :=
  .next (setPair p (topOfStack s) (dropStack (advance 1#16 s)))

/-- `POP IX` and `POP IY` (R427). -/
def execPopXy (y : Idx) (s : State) : Result :=
  .next (setIdx y (topOfStack s) (dropStack (advance 2#16 s)))

/-! ## Exchanges -/

/-- `EX DE,HL` (R428). -/
def execExDeHl (s : State) : Result :=
  .next (setPair .de (regHl s) (setPair .hl (regDe s) (advance 1#16 s)))

/-- `EX AF,AF'` (R429): stored bits move, U5 and U3 among them. -/
def execExAfAf (s : State) : Result :=
  .next { advance 1#16 s with
    reg := { s.reg with a := s.alt.a, f := s.alt.f }
    alt := { s.alt with a := s.reg.a, f := s.reg.f } }

/-- `EXX` (R430): A and F of both banks stay. -/
def execExx (s : State) : Result :=
  .next { advance 1#16 s with
    reg := { s.alt with a := s.reg.a, f := s.reg.f }
    alt := { s.reg with a := s.alt.a, f := s.alt.f } }

/-- `EXSP_IS_STACK_WRITE` (R909). -/
def exSpKind (s : State) : WriteKind := if s.cfg.exspIsStackWrite then .stack else .data

/-- `EX (SP),HL` (R431): both reads, then both writes, low address first (D5). -/
def execExSpHl (s : State) : Result :=
  .next (setPair .hl (readMem16 s s.sp) (writeMem16 (exSpKind s) s.sp (regHl s) (advance 1#16 s)))

/-- `EX (SP),IX` and `EX (SP),IY` (R432). -/
def execExSpXy (y : Idx) (s : State) : Result :=
  .next (setIdx y (readMem16 s s.sp) (writeMem16 (exSpKind s) s.sp (getIdx y s) (advance 2#16 s)))

end Sys2Proof.Machine
end

