-- ==== Sys2Proof/Machine/Mpu.lean ====
section
/-! DEFINITION. The nine MPU instructions (48_mpu.md): R860 to R870. -/

namespace Sys2Proof.Machine

/-! ## The CPU version (R870) -/

/-- An MPU opcode in the CPU version: the trap of an undefined second byte, or the parameter's other value, where
`effect` is all that happens beside PC's advance. -/
def onCpu (effect : State → State) (s : State) : State :=
  match s.cfg.mpuOnCpu with
  | .illegal => illegalTrap2 s
  | .absentEffect => effect (advance 2#16 s)

/-- The meaning in each version: `mpu` runs with PC past the instruction. -/
def mpuOrCpu (mpu cpu : State → State) (s : State) : Result :=
  match s.cfg.version with
  | .mpu => .next (mpu (advance 2#16 s))
  | .cpu => .next (onCpu cpu s)

/-- Sixteen free bytes, from index `n` on. -/
def freeBytes16 (n : Nat) : List Byte := (List.range 16).map fun k => Config.freeByte (n + k)

/-- The memory side of a storing block instruction without its module: sixteen free bytes (R870, log 22). -/
def storeAbsent (s : State) : State :=
  { writeBytes (regHl s) (freeBytes16 s.free) s with free := s.free + 16 }

/-! ## The MMU (R860 to R865) -/

/-- The shadow of the block instructions (R869). -/
def withShadow (s : State) : State := { s with shadow := true }

/-- HL moves past the sixteen bytes. -/
def passTable (s : State) : State := setPair .hl (regHl s + 16#16) s

/-- Byte k of the table at HL. -/
def tableByte (s : State) (k : Nat) : Byte := readMem s (regHl s + BitVec.ofNat 16 k)

/-- The buffer with its lower bytes from the table at HL (R860); the active context translates the reads. -/
def bufLow (s : State) : MmuSet :=
  Vector.ofFn fun k => mk16 (hiByte (s.mmuBuf.get k)) (tableByte s k.val)

/-- The buffer with its upper bytes from the table at HL (R861). -/
def bufHigh (s : State) : MmuSet :=
  Vector.ofFn fun k => mk16 (tableByte s k.val) (loByte (s.mmuBuf.get k))

/-- The exchange of the two contexts (R863). -/
def swapContexts (s : State) : State := { s with mmu := s.mmuBuf, mmuBuf := s.mmu }

/-- `LDM MMU,(HL)` (R860). -/
def execLdmMmu (s : State) : Result :=
  mpuOrCpu (fun t => withShadow (passTable { t with mmuBuf := bufLow t })) id s

/-- `LDM MMUH,(HL)` (R861). -/
def execLdmMmuh (s : State) : Result :=
  mpuOrCpu (fun t => withShadow (passTable { t with mmuBuf := bufHigh t })) id s

/-- `LDMS MMU,(HL)` (R862): the exchange is the last action. -/
def execLdmsMmu (s : State) : Result :=
  mpuOrCpu (fun t => withShadow (swapContexts (passTable { t with mmuBuf := bufLow t }))) id s

/-- `SWAP` (R863). -/
def execSwap (s : State) : Result := mpuOrCpu (fun t => withShadow (swapContexts t)) id s

/-- `LDM (HL),MMU` (R864). -/
def execLdmFromMmu (s : State) : Result :=
  mpuOrCpu
    (fun t => withShadow (passTable (writeBytes (regHl t) (t.mmuBuf.toList.map loByte) t)))
    storeAbsent s

/-- `LDM (HL),MMUH` (R865). -/
def execLdmFromMmuh (s : State) : Result :=
  mpuOrCpu
    (fun t => withShadow (passTable (writeBytes (regHl t) (t.mmuBuf.toList.map hiByte) t)))
    storeAbsent s

/-! ## The System Status Block (R866, R950 to R954, R959) -/

/-- Reset Status (R954). -/
def resetStatus (s : State) : Byte :=
  mkByte s.sys.fatalSeen s.sys.faultSeen s.sys.wdtSeen s.sys.porSeen
    (s.pins.resetBus.getLsbD 1) s.sys.bus1Seen (s.pins.resetBus.getLsbD 0) s.sys.bus0Seen

/-- Trap Status (R952). -/
def trapStatus (s : State) : Byte :=
  mkByte false false false false s.sys.wpTrap s.sys.execTrap s.sys.ill3Trap s.sys.ill2Trap

/-- The sixteen bytes of R950. -/
def statusBlock (s : State) : List Byte :=
  [ resetStatus s, trapStatus s,
    loByte s.sys.trapLog, hiByte s.sys.trapLog, loByte s.sys.trapPhys, hiByte s.sys.trapPhys,
    loByte s.sys.faultLog, hiByte s.sys.faultLog, loByte s.sys.faultPhys, hiByte s.sys.faultPhys,
    0x00#8, 0x00#8,
    s.sys.dreqStat, s.sys.waitStat, rtiStatus s.pins s.rti, s.pins.extStatBus ]

/-- Some of the sixteen bytes at HL is write-protected. -/
def tableInhibited (s : State) : Bool :=
  (List.range 16).any fun k => writeInhibited s (regHl s + BitVec.ofNat 16 k)

/-- The clearing at the end of the read (R866). Whether a trap of this instruction's own writes survives it is
free. -/
def clearStatus (ownTrap : Bool) (s : State) : State :=
  { s with
    sys :=
      { s.sys with
        fatalSeen := false
        faultSeen := false
        wdtSeen := false
        porSeen := false
        bus1Seen := false
        bus0Seen := false
        wpTrap := ownTrap && Config.freeBit s.free
        execTrap := false
        ill3Trap := false
        ill2Trap := false
        dreqStat := 0x00#8
        waitStat := 0x00#8 }
    free := s.free + 1 }

/-- The read of the status block: the snapshot, the sixteen writes, the clearing, the pulse (R866). -/
def readStatus (s : State) : State :=
  let stored := passTable (writeBytes (regHl s) (statusBlock s) s)
  (clearStatus (tableInhibited s) stored).emit .extStatRd

/-- `LDM (HL),SYS` (R866). -/
def execLdmFromSys (s : State) : Result :=
  mpuOrCpu (fun t => withShadow (readStatus t)) storeAbsent s

/-! ## The watch-dog (R867, R868, R947) -/

/-- Start or restart the watch-dog with the limit sampled now. -/
def wdtRestart (enable : Bool) (s : State) : State :=
  { s with
    wdt :=
      { s.wdt with
        enabled := s.wdt.enabled || enable
        count := 0
        limit := s.pins.wdtLim } }

/-- WDARM (R867): starts a stopped Arm Timer; under `WDT_ENABLE_EVENT` = first_wdarm the first one also enables
the watch-dog (R947). -/
def wdArm (s : State) : State :=
  if s.wdt.arm = 0 then
    let t := { s with wdt := { s.wdt with arm := 256 } }
    if s.cfg.wdtEnable == .firstWdarm && !s.wdt.enabled then wdtRestart true t else t
  else s

/-- WDRES (R868): honoured while the Arm Timer runs, which it does not stop (D16). -/
def wdRes (s : State) : State :=
  if s.wdt.arm = 0 then s else wdtRestart (s.cfg.wdtEnable == .firstWdres) s

/-- `WDARM` (R867). -/
def execWdarm (s : State) : Result := mpuOrCpu wdArm id s

/-- `WDRES` (R868). -/
def execWdres (s : State) : Result := mpuOrCpu wdRes id s

end Sys2Proof.Machine
end

