-- ==== Sys2Proof/Machine/Rotate.lean ====
section
/-! DEFINITION. Rotates, shifts and bit operations (44_rotate_bit.md): R600 to R616. -/

namespace Sys2Proof.Machine

/-! ## The seven operations on a byte (R605 to R611), with the carry before -/

/-- A byte and the bit moved out. -/
structure Moved where
  res : Byte
  out : Bool
deriving DecidableEq, Repr

/-- A left move: `bit` comes in at bit 0. -/
def moveLeft (x : Byte) (bit : Bool) : Moved :=
  ⟨x.extractLsb' 0 7 ++ BitVec.ofBool bit, x.getLsbD 7⟩

/-- A right move: `bit` comes in at bit 7. -/
def moveRight (x : Byte) (bit : Bool) : Moved :=
  ⟨BitVec.ofBool bit ++ x.extractLsb' 1 7, x.getLsbD 0⟩

/-- The rotates and shifts of the CB page. -/
inductive Shift where
  | rlc | rrc | rl | rr | sla | sra | srl
deriving DecidableEq, Repr

/-- The operation of each (R605 to R611). -/
def shiftByte (k : Shift) (c : Bool) (x : Byte) : Moved :=
  match k with
  | .rlc => moveLeft x (x.getLsbD 7)
  | .rrc => moveRight x (x.getLsbD 0)
  | .rl => moveLeft x c
  | .rr => moveRight x c
  | .sla => moveLeft x false
  | .sra => moveRight x (x.getLsbD 7)
  | .srl => moveRight x false

/-- The register form (R604). -/
def shiftReg (k : Shift) (r : R8) (s : State) : State :=
  let m := shiftByte k s.reg.f.c (getR r s)
  writeFlags (flagsRot m.res m.out s.reg.f) (setR r m.res s)

/-- The memory forms (R604): read, compute, write back. -/
def shiftAt (k : Shift) (la : Word) (s : State) : State :=
  let m := shiftByte k s.reg.f.c (readMem s la)
  writeFlags (flagsRot m.res m.out s.reg.f) (writeMem .data la m.res s)

/-! ## Accumulator rotates -/

/-- A rotate of A that writes H, N and C only (R600 to R603). -/
def rotateAcc (k : Shift) (s : State) : State :=
  let m := shiftByte k s.reg.f.c s.reg.a
  writeFlags (flagsRotA m.out s.reg.f) (setR .a m.res s)

/-- `RLCA` (R600). -/
def execRlca (s : State) : Result := .next (rotateAcc .rlc (advance 1#16 s))

/-- `RLA` (R601). -/
def execRla (s : State) : Result := .next (rotateAcc .rl (advance 1#16 s))

/-- `RRCA` (R602). -/
def execRrca (s : State) : Result := .next (rotateAcc .rrc (advance 1#16 s))

/-- `RRA` (R603). -/
def execRra (s : State) : Result := .next (rotateAcc .rr (advance 1#16 s))

/-! ## CB-page rotates and shifts -/

/-- `RLC r` (R605). -/
def execRlcR (r : R8) (s : State) : Result := .next (shiftReg .rlc r (advance 2#16 s))

/-- `RLC (HL)` (R605). -/
def execRlcM (s : State) : Result := .next (shiftAt .rlc (regHl s) (advance 2#16 s))

/-- `RLC (IX+d)` and `RLC (IY+d)` (R605). -/
def execRlcX (y : Idx) (d : Byte) (s : State) : Result := .next (shiftAt .rlc (eaIdx y d s) (advance 4#16 s))

/-- `RRC r` (R607). -/
def execRrcR (r : R8) (s : State) : Result := .next (shiftReg .rrc r (advance 2#16 s))

/-- `RRC (HL)` (R607). -/
def execRrcM (s : State) : Result := .next (shiftAt .rrc (regHl s) (advance 2#16 s))

/-- `RRC (IX+d)` and `RRC (IY+d)` (R607). -/
def execRrcX (y : Idx) (d : Byte) (s : State) : Result := .next (shiftAt .rrc (eaIdx y d s) (advance 4#16 s))

/-- `RL r` (R606). -/
def execRlR (r : R8) (s : State) : Result := .next (shiftReg .rl r (advance 2#16 s))

/-- `RL (HL)` (R606). -/
def execRlM (s : State) : Result := .next (shiftAt .rl (regHl s) (advance 2#16 s))

/-- `RL (IX+d)` and `RL (IY+d)` (R606). -/
def execRlX (y : Idx) (d : Byte) (s : State) : Result := .next (shiftAt .rl (eaIdx y d s) (advance 4#16 s))

/-- `RR r` (R608). -/
def execRrR (r : R8) (s : State) : Result := .next (shiftReg .rr r (advance 2#16 s))

/-- `RR (HL)` (R608). -/
def execRrM (s : State) : Result := .next (shiftAt .rr (regHl s) (advance 2#16 s))

/-- `RR (IX+d)` and `RR (IY+d)` (R608). -/
def execRrX (y : Idx) (d : Byte) (s : State) : Result := .next (shiftAt .rr (eaIdx y d s) (advance 4#16 s))

/-- `SLA r` (R609). -/
def execSlaR (r : R8) (s : State) : Result := .next (shiftReg .sla r (advance 2#16 s))

/-- `SLA (HL)` (R609). -/
def execSlaM (s : State) : Result := .next (shiftAt .sla (regHl s) (advance 2#16 s))

/-- `SLA (IX+d)` and `SLA (IY+d)` (R609). -/
def execSlaX (y : Idx) (d : Byte) (s : State) : Result := .next (shiftAt .sla (eaIdx y d s) (advance 4#16 s))

/-- `SRA r` (R610). -/
def execSraR (r : R8) (s : State) : Result := .next (shiftReg .sra r (advance 2#16 s))

/-- `SRA (HL)` (R610). -/
def execSraM (s : State) : Result := .next (shiftAt .sra (regHl s) (advance 2#16 s))

/-- `SRA (IX+d)` and `SRA (IY+d)` (R610). -/
def execSraX (y : Idx) (d : Byte) (s : State) : Result := .next (shiftAt .sra (eaIdx y d s) (advance 4#16 s))

/-- `SRL r` (R611). -/
def execSrlR (r : R8) (s : State) : Result := .next (shiftReg .srl r (advance 2#16 s))

/-- `SRL (HL)` (R611). -/
def execSrlM (s : State) : Result := .next (shiftAt .srl (regHl s) (advance 2#16 s))

/-- `SRL (IX+d)` and `SRL (IY+d)` (R611). -/
def execSrlX (y : Idx) (d : Byte) (s : State) : Result := .next (shiftAt .srl (eaIdx y d s) (advance 4#16 s))

/-! ## Digit rotates -/

/-- The digit rotates: the byte written to (HL), and the low digit A takes (R612, R613). -/
def rotateDigit (mem : Byte) (low : BitVec 4) (s : State) : State :=
  let res : Byte := hiNibble s.reg.a ++ low
  writeFlags (flagsIn res s.reg.f) (setR .a res (writeMem .data (regHl s) mem s))

/-- `RLD` (R612). -/
def execRld (s : State) : Result :=
  let t := srcM s
  .next (rotateDigit (loNibble t ++ loNibble s.reg.a) (hiNibble t) (advance 2#16 s))

/-- `RRD` (R613). -/
def execRrd (s : State) : Result :=
  let t := srcM s
  .next (rotateDigit (loNibble s.reg.a ++ hiNibble t) (loNibble t) (advance 2#16 s))

/-! ## Bit test, reset, set -/

/-- The byte with bit b alone set. -/
def bitMask (b : BitVec 3) : Byte := 1#8 <<< b.toNat

/-- `dst[b] <= 1` (R615). -/
def setBit (b : BitVec 3) (x : Byte) : Byte := x ||| bitMask b

/-- `dst[b] <= 0` (R616). -/
def clearBit (b : BitVec 3) (x : Byte) : Byte := x &&& ~~~(bitMask b)

/-- BIT of an operand (R614). -/
def testBit (b : BitVec 3) (x : Byte) (s : State) : State :=
  writeFlags (flagsBit (x.getLsbD b.toNat) s.reg.f) s

/-- `BIT b,r` (R614). -/
def execBitR (b : BitVec 3) (r : R8) (s : State) : Result := .next (testBit b (getR r s) (advance 2#16 s))

/-- `BIT b,(HL)` (R614). -/
def execBitM (b : BitVec 3) (s : State) : Result := .next (testBit b (srcM s) (advance 2#16 s))

/-- `BIT b,(IX+d)` and `BIT b,(IY+d)` (R614). -/
def execBitX (b : BitVec 3) (y : Idx) (d : Byte) (s : State) : Result :=
  .next (testBit b (srcX y d s) (advance 4#16 s))

/-- `RES b,r` (R616). -/
def execResR (b : BitVec 3) (r : R8) (s : State) : Result :=
  .next (setR r (clearBit b (getR r s)) (advance 2#16 s))

/-- `RES b,(HL)` (R616). -/
def execResM (b : BitVec 3) (s : State) : Result :=
  .next (writeMem .data (regHl s) (clearBit b (srcM s)) (advance 2#16 s))

/-- `RES b,(IX+d)` and `RES b,(IY+d)` (R616). -/
def execResX (b : BitVec 3) (y : Idx) (d : Byte) (s : State) : Result :=
  .next (writeMem .data (eaIdx y d s) (clearBit b (srcX y d s)) (advance 4#16 s))

/-- `SET b,r` (R615). -/
def execSetR (b : BitVec 3) (r : R8) (s : State) : Result :=
  .next (setR r (setBit b (getR r s)) (advance 2#16 s))

/-- `SET b,(HL)` (R615). -/
def execSetM (b : BitVec 3) (s : State) : Result :=
  .next (writeMem .data (regHl s) (setBit b (srcM s)) (advance 2#16 s))

/-- `SET b,(IX+d)` and `SET b,(IY+d)` (R615). -/
def execSetX (b : BitVec 3) (y : Idx) (d : Byte) (s : State) : Result :=
  .next (writeMem .data (eaIdx y d s) (setBit b (srcX y d s)) (advance 4#16 s))

end Sys2Proof.Machine
end

