-- ==== Sys2Proof/Machine/System.lean ====
section
/-! DEFINITION. CPU control (47_system.md): R830 to R835. -/

namespace Sys2Proof.Machine

/-- `NOP` (R830). -/
def execNop (s : State) : Result := .next (advance 1#16 s)

/-- `HALT` (R831): the interrupt enable is remembered; PC is past the HALT. -/
def execHalt (s : State) : Result :=
  .next { advance 1#16 s with run := .halted, haltIntEn := s.iff1 }

/-- `SLP` (R832). -/
def execSlp (s : State) : Result :=
  .next { advance 2#16 s with run := .sleeping, intSeen := intRequest s }

/-- `DI` (R833). -/
def execDi (s : State) : Result := .next { advance 1#16 s with iff1 := false, iff2 := false }

/-- `EI` (R834); under `EI_SHADOW` = one_instruction the next boundary takes no maskable interrupt (R1011;
log 41). -/
def execEi (s : State) : Result :=
  .next { advance 1#16 s with
    iff1 := true
    iff2 := true
    eiShadow := s.cfg.eiShadow == .oneInstruction }

/-- `IM 0` (R835). -/
def execIm0 (s : State) : Result := .next { advance 2#16 s with im := .im0 }

/-- `IM 1` (R835). -/
def execIm1 (s : State) : Result := .next { advance 2#16 s with im := .im1 }

/-- `IM 2` (R835). -/
def execIm2 (s : State) : Result := .next { advance 2#16 s with im := .im2 }

end Sys2Proof.Machine
end

