-- ==== Sys2Proof/Machine/Dispatch.lean ====
section
/-! DEFINITION. The dispatch: one arm per constructor of Instr, each one call of that instruction's meaning. -/

namespace Sys2Proof.Machine

def exec (i : Instr) (s : State) : Host.Outcome State Fault Refusal :=
  match i with
  | .addAR r => Sys2Proof.Machine.execAddAR r s
  | .addAN n => Sys2Proof.Machine.execAddAN n s
  | .addAM => Sys2Proof.Machine.execAddAM s
  | .addAX y d => Sys2Proof.Machine.execAddAX y d s
  | .adcAR r => Sys2Proof.Machine.execAdcAR r s
  | .adcAN n => Sys2Proof.Machine.execAdcAN n s
  | .adcAM => Sys2Proof.Machine.execAdcAM s
  | .adcAX y d => Sys2Proof.Machine.execAdcAX y d s
  | .subAR r => Sys2Proof.Machine.execSubAR r s
  | .subAN n => Sys2Proof.Machine.execSubAN n s
  | .subAM => Sys2Proof.Machine.execSubAM s
  | .subAX y d => Sys2Proof.Machine.execSubAX y d s
  | .sbcAR r => Sys2Proof.Machine.execSbcAR r s
  | .sbcAN n => Sys2Proof.Machine.execSbcAN n s
  | .sbcAM => Sys2Proof.Machine.execSbcAM s
  | .sbcAX y d => Sys2Proof.Machine.execSbcAX y d s
  | .andAR r => Sys2Proof.Machine.execAndAR r s
  | .andAN n => Sys2Proof.Machine.execAndAN n s
  | .andAM => Sys2Proof.Machine.execAndAM s
  | .andAX y d => Sys2Proof.Machine.execAndAX y d s
  | .xorAR r => Sys2Proof.Machine.execXorAR r s
  | .xorAN n => Sys2Proof.Machine.execXorAN n s
  | .xorAM => Sys2Proof.Machine.execXorAM s
  | .xorAX y d => Sys2Proof.Machine.execXorAX y d s
  | .orAR r => Sys2Proof.Machine.execOrAR r s
  | .orAN n => Sys2Proof.Machine.execOrAN n s
  | .orAM => Sys2Proof.Machine.execOrAM s
  | .orAX y d => Sys2Proof.Machine.execOrAX y d s
  | .cpAR r => Sys2Proof.Machine.execCpAR r s
  | .cpAN n => Sys2Proof.Machine.execCpAN n s
  | .cpAM => Sys2Proof.Machine.execCpAM s
  | .cpAX y d => Sys2Proof.Machine.execCpAX y d s
  | .incR r => Sys2Proof.Machine.execIncR r s
  | .incM => Sys2Proof.Machine.execIncM s
  | .incX y d => Sys2Proof.Machine.execIncX y d s
  | .decR r => Sys2Proof.Machine.execDecR r s
  | .decM => Sys2Proof.Machine.execDecM s
  | .decX y d => Sys2Proof.Machine.execDecX y d s
  | .neg => Sys2Proof.Machine.execNeg s
  | .cpl => Sys2Proof.Machine.execCpl s
  | .daa => Sys2Proof.Machine.execDaa s
  | .ccf => Sys2Proof.Machine.execCcf s
  | .scf => Sys2Proof.Machine.execScf s
  | .tstR r => Sys2Proof.Machine.execTstR r s
  | .tstN n => Sys2Proof.Machine.execTstN n s
  | .tstM => Sys2Proof.Machine.execTstM s
  | .mltSs p => Sys2Proof.Machine.execMltSs p s
  | .addHlSs p => Sys2Proof.Machine.execAddHlSs p s
  | .addIxXx p => Sys2Proof.Machine.execAddIxXx p s
  | .addIyYy p => Sys2Proof.Machine.execAddIyYy p s
  | .adcHlSs p => Sys2Proof.Machine.execAdcHlSs p s
  | .sbcHlSs p => Sys2Proof.Machine.execSbcHlSs p s
  | .incSs p => Sys2Proof.Machine.execIncSs p s
  | .incXy y => Sys2Proof.Machine.execIncXy y s
  | .decSs p => Sys2Proof.Machine.execDecSs p s
  | .decXy y => Sys2Proof.Machine.execDecXy y s
  | .ldRR r q => Sys2Proof.Machine.execLdRR r q s
  | .ldRN r n => Sys2Proof.Machine.execLdRN r n s
  | .ldRM r => Sys2Proof.Machine.execLdRM r s
  | .ldRX r y d => Sys2Proof.Machine.execLdRX r y d s
  | .ldMR r => Sys2Proof.Machine.execLdMR r s
  | .ldXR y d r => Sys2Proof.Machine.execLdXR y d r s
  | .ldMN n => Sys2Proof.Machine.execLdMN n s
  | .ldXN y d n => Sys2Proof.Machine.execLdXN y d n s
  | .ldABc => Sys2Proof.Machine.execLdABc s
  | .ldADe => Sys2Proof.Machine.execLdADe s
  | .ldAMn mn => Sys2Proof.Machine.execLdAMn mn s
  | .ldBcA => Sys2Proof.Machine.execLdBcA s
  | .ldDeA => Sys2Proof.Machine.execLdDeA s
  | .ldMnA mn => Sys2Proof.Machine.execLdMnA mn s
  | .ldAI => Sys2Proof.Machine.execLdAI s
  | .ldAR => Sys2Proof.Machine.execLdAR s
  | .ldIA => Sys2Proof.Machine.execLdIA s
  | .ldRA => Sys2Proof.Machine.execLdRA s
  | .ldDdMn p mn => Sys2Proof.Machine.execLdDdMn p mn s
  | .ldXyMn y mn => Sys2Proof.Machine.execLdXyMn y mn s
  | .ldHlFromMn mn => Sys2Proof.Machine.execLdHlFromMn mn s
  | .ldDdFromMn p mn => Sys2Proof.Machine.execLdDdFromMn p mn s
  | .ldXyFromMn y mn => Sys2Proof.Machine.execLdXyFromMn y mn s
  | .ldMnHl mn => Sys2Proof.Machine.execLdMnHl mn s
  | .ldMnSs mn p => Sys2Proof.Machine.execLdMnSs mn p s
  | .ldMnXy mn y => Sys2Proof.Machine.execLdMnXy mn y s
  | .ldSpHl => Sys2Proof.Machine.execLdSpHl s
  | .ldSpXy y => Sys2Proof.Machine.execLdSpXy y s
  | .pushTt p => Sys2Proof.Machine.execPushTt p s
  | .pushXy y => Sys2Proof.Machine.execPushXy y s
  | .popTt p => Sys2Proof.Machine.execPopTt p s
  | .popXy y => Sys2Proof.Machine.execPopXy y s
  | .exDeHl => Sys2Proof.Machine.execExDeHl s
  | .exAfAf => Sys2Proof.Machine.execExAfAf s
  | .exx => Sys2Proof.Machine.execExx s
  | .exSpHl => Sys2Proof.Machine.execExSpHl s
  | .exSpXy y => Sys2Proof.Machine.execExSpXy y s
  | .ldi => Sys2Proof.Machine.execLdi s
  | .ldir => Sys2Proof.Machine.execLdir s
  | .ldd => Sys2Proof.Machine.execLdd s
  | .lddr => Sys2Proof.Machine.execLddr s
  | .cpi => Sys2Proof.Machine.execCpi s
  | .cpir => Sys2Proof.Machine.execCpir s
  | .cpd => Sys2Proof.Machine.execCpd s
  | .cpdr => Sys2Proof.Machine.execCpdr s
  | .rlca => Sys2Proof.Machine.execRlca s
  | .rla => Sys2Proof.Machine.execRla s
  | .rrca => Sys2Proof.Machine.execRrca s
  | .rra => Sys2Proof.Machine.execRra s
  | .rlcR r => Sys2Proof.Machine.execRlcR r s
  | .rlcM => Sys2Proof.Machine.execRlcM s
  | .rlcX y d => Sys2Proof.Machine.execRlcX y d s
  | .rrcR r => Sys2Proof.Machine.execRrcR r s
  | .rrcM => Sys2Proof.Machine.execRrcM s
  | .rrcX y d => Sys2Proof.Machine.execRrcX y d s
  | .rlR r => Sys2Proof.Machine.execRlR r s
  | .rlM => Sys2Proof.Machine.execRlM s
  | .rlX y d => Sys2Proof.Machine.execRlX y d s
  | .rrR r => Sys2Proof.Machine.execRrR r s
  | .rrM => Sys2Proof.Machine.execRrM s
  | .rrX y d => Sys2Proof.Machine.execRrX y d s
  | .slaR r => Sys2Proof.Machine.execSlaR r s
  | .slaM => Sys2Proof.Machine.execSlaM s
  | .slaX y d => Sys2Proof.Machine.execSlaX y d s
  | .sraR r => Sys2Proof.Machine.execSraR r s
  | .sraM => Sys2Proof.Machine.execSraM s
  | .sraX y d => Sys2Proof.Machine.execSraX y d s
  | .srlR r => Sys2Proof.Machine.execSrlR r s
  | .srlM => Sys2Proof.Machine.execSrlM s
  | .srlX y d => Sys2Proof.Machine.execSrlX y d s
  | .rld => Sys2Proof.Machine.execRld s
  | .rrd => Sys2Proof.Machine.execRrd s
  | .bitR b r => Sys2Proof.Machine.execBitR b r s
  | .bitM b => Sys2Proof.Machine.execBitM b s
  | .bitX b y d => Sys2Proof.Machine.execBitX b y d s
  | .resR b r => Sys2Proof.Machine.execResR b r s
  | .resM b => Sys2Proof.Machine.execResM b s
  | .resX b y d => Sys2Proof.Machine.execResX b y d s
  | .setR b r => Sys2Proof.Machine.execSetR b r s
  | .setM b => Sys2Proof.Machine.execSetM b s
  | .setX b y d => Sys2Proof.Machine.execSetX b y d s
  | .jpMn mn => Sys2Proof.Machine.execJpMn mn s
  | .jpCcMn cc mn => Sys2Proof.Machine.execJpCcMn cc mn s
  | .jpHl => Sys2Proof.Machine.execJpHl s
  | .jpXy y => Sys2Proof.Machine.execJpXy y s
  | .jrE e => Sys2Proof.Machine.execJrE e s
  | .jrCcE cc e => Sys2Proof.Machine.execJrCcE cc e s
  | .djnz e => Sys2Proof.Machine.execDjnz e s
  | .callMn mn => Sys2Proof.Machine.execCallMn mn s
  | .callCcMn cc mn => Sys2Proof.Machine.execCallCcMn cc mn s
  | .ret => Sys2Proof.Machine.execRet s
  | .retCc cc => Sys2Proof.Machine.execRetCc cc s
  | .reti => Sys2Proof.Machine.execReti s
  | .retn => Sys2Proof.Machine.execRetn s
  | .rst v => Sys2Proof.Machine.execRst v s
  | .inAN n => Sys2Proof.Machine.execInAN n s
  | .inRC r => Sys2Proof.Machine.execInRC r s
  | .in0RN r n => Sys2Proof.Machine.execIn0RN r n s
  | .outNA n => Sys2Proof.Machine.execOutNA n s
  | .outCR r => Sys2Proof.Machine.execOutCR r s
  | .out0NR n r => Sys2Proof.Machine.execOut0NR n r s
  | .ini => Sys2Proof.Machine.execIni s
  | .inir => Sys2Proof.Machine.execInir s
  | .ind => Sys2Proof.Machine.execInd s
  | .indr => Sys2Proof.Machine.execIndr s
  | .outi => Sys2Proof.Machine.execOuti s
  | .otir => Sys2Proof.Machine.execOtir s
  | .outd => Sys2Proof.Machine.execOutd s
  | .otdr => Sys2Proof.Machine.execOtdr s
  | .otim => Sys2Proof.Machine.execOtim s
  | .otimr => Sys2Proof.Machine.execOtimr s
  | .otdm => Sys2Proof.Machine.execOtdm s
  | .otdmr => Sys2Proof.Machine.execOtdmr s
  | .tstioN n => Sys2Proof.Machine.execTstioN n s
  | .nop => Sys2Proof.Machine.execNop s
  | .halt => Sys2Proof.Machine.execHalt s
  | .slp => Sys2Proof.Machine.execSlp s
  | .di => Sys2Proof.Machine.execDi s
  | .ei => Sys2Proof.Machine.execEi s
  | .im0 => Sys2Proof.Machine.execIm0 s
  | .im1 => Sys2Proof.Machine.execIm1 s
  | .im2 => Sys2Proof.Machine.execIm2 s
  | .ldmMmu => Sys2Proof.Machine.execLdmMmu s
  | .ldmMmuh => Sys2Proof.Machine.execLdmMmuh s
  | .ldmsMmu => Sys2Proof.Machine.execLdmsMmu s
  | .swap => Sys2Proof.Machine.execSwap s
  | .ldmFromMmu => Sys2Proof.Machine.execLdmFromMmu s
  | .ldmFromMmuh => Sys2Proof.Machine.execLdmFromMmuh s
  | .ldmFromSys => Sys2Proof.Machine.execLdmFromSys s
  | .wdarm => Sys2Proof.Machine.execWdarm s
  | .wdres => Sys2Proof.Machine.execWdres s

end Sys2Proof.Machine
end

