-- ==== Sys2Proof/Machine/Fetch.lean ====
section
/-! DEFINITION. The instruction boundary (R910), the Halt and Sleep cycles (R921, R922), the first-byte fetch
with its checks and the prefetch (R905, R218), and one action of the machine. -/

namespace Sys2Proof.Machine

/-! ## Prefetch (R114, R218, log 13, log 34) -/

/-- The instruction has an address-calculation cycle: its clock count has a parenthesised value, or the sources
give none; and the two that exchange the MMU contexts (R1012). -/
def prefetches : Instr → Bool
  | .addAM | .addAX _ _ | .adcAM | .adcAX _ _ | .subAM | .subAX _ _ | .sbcAM | .sbcAX _ _ | .andAM
  | .andAX _ _ | .xorAM | .xorAX _ _ | .orAM | .orAX _ _ | .cpAM | .cpAX _ _ | .incM | .incX _ _ | .decM
  | .decX _ _ | .tstM | .ldRM _ | .ldRX _ _ _ | .ldMR _ | .ldXR _ _ _ | .ldMN _ | .ldXN _ _ _ | .ldABc
  | .ldADe | .ldAMn _ | .ldBcA | .ldDeA | .ldMnA _ | .ldHlFromMn _ | .ldDdFromMn _ _ | .ldXyFromMn _ _
  | .ldMnHl _ | .ldMnSs _ _ | .ldMnXy _ _ | .pushTt _ | .pushXy _ | .popTt _ | .popXy _ | .exSpHl
  | .exSpXy _ | .ldi | .ldd | .cpi | .cpd | .rlcM | .rlcX _ _ | .rrcM | .rrcX _ _ | .rlM | .rlX _ _ | .rrM
  | .rrX _ _ | .slaM | .slaX _ _ | .sraM | .sraX _ _ | .srlM | .srlX _ _ | .rld | .rrd | .bitM _ | .resM _
  | .resX _ _ _ | .setM _ | .setX _ _ _ | .inAN _ | .inRC _ | .in0RN _ _ | .outNA _ | .outCR _ | .out0NR _ _
  | .ini | .ind | .outi | .outd | .otim | .otdm | .ldmsMmu | .swap => true
  | .addAR _ | .addAN _ | .adcAR _ | .adcAN _ | .subAR _ | .subAN _ | .sbcAR _ | .sbcAN _ | .andAR _
  | .andAN _ | .xorAR _ | .xorAN _ | .orAR _ | .orAN _ | .cpAR _ | .cpAN _ | .incR _ | .decR _ | .neg | .cpl
  | .daa | .ccf | .scf | .tstR _ | .tstN _ | .mltSs _ | .addHlSs _ | .addIxXx _ | .addIyYy _ | .adcHlSs _
  | .sbcHlSs _ | .incSs _ | .incXy _ | .decSs _ | .decXy _ | .ldRR _ _ | .ldRN _ _ | .ldAI | .ldAR | .ldIA
  | .ldRA | .ldDdMn _ _ | .ldXyMn _ _ | .ldSpHl | .ldSpXy _ | .exDeHl | .exAfAf | .exx | .ldir | .lddr
  | .cpir | .cpdr | .rlca | .rla | .rrca | .rra | .rlcR _ | .rrcR _ | .rlR _ | .rrR _ | .slaR _ | .sraR _
  | .srlR _ | .bitR _ _ | .bitX _ _ _ | .resR _ _ | .setR _ _ | .jpMn _ | .jpCcMn _ _ | .jpHl | .jpXy _
  | .jrE _ | .jrCcE _ _ | .djnz _ | .callMn _ | .callCcMn _ _ | .ret | .retCc _ | .reti | .retn | .rst _
  | .inir | .indr | .otir | .otdr | .otimr | .otdmr | .tstioN _ | .nop | .halt | .slp | .di | .ei | .im0
  | .im1 | .im2 | .ldmMmu | .ldmMmuh | .ldmFromMmu | .ldmFromMmuh | .ldmFromSys | .wdarm | .wdres => false

/-- What the prefetch of an instruction leaves in the buffer: the byte after it, read before its own effect, if
that byte is a prefix byte and `exec_inh` is not active for it. -/
def prefetchedAfter (i : Instr) (s : State) : Option (Word × Byte) :=
  let la := s.pc + BitVec.ofNat 16 i.length
  let b := readMem s la
  if s.pins.enPrftch && prefetches i && isPrefixByte b && !execInhibited s la then some (la, b) else none

/-- The first byte decoded: the buffered one or the one now in memory; which of them is free where they differ
(U22). -/
def firstByte (s : State) : Byte :=
  let now := readMem s s.pc
  match s.prefetched with
  | some (la, b) => if la = s.pc ∧ b ≠ now then (if Config.freeBit s.free then b else now) else now
  | none => now

/-- The free values `firstByte` has used. -/
def firstByteUsed (s : State) : Nat :=
  match s.prefetched with
  | some (la, b) => if la = s.pc ∧ b ≠ readMem s s.pc then 1 else 0
  | none => 0

/-! ## What the machine does next -/

/-- The next action of the machine: a state it becomes, or an instruction that runs from a state. -/
inductive Plan where
  | become (t : State)
  | run (i : Instr) (s : State)
deriving DecidableEq, Repr

/-- The outcome of an action, with this meaning of the instructions. -/
def Plan.result (meaning : Instr → State → Result) : Plan → Result
  | .become t => .next t
  | .run i s => meaning i s

/-! ## Fetch -/

/-- The bytes at PC, decoded. -/
def fetched (s : State) : Decoded :=
  decode (firstByte s) (readMem s (s.pc + 1#16)) (readMem s (s.pc + 2#16)) (readMem s (s.pc + 3#16))

/-- The buffer is used up by the fetch. -/
def afterFetch (s : State) : State :=
  { s with prefetched := none, free := s.free + firstByteUsed s }

/-- The first-byte fetch at PC: the execute-inhibit check, the illegal opcodes, else the instruction
(R901 item 7). -/
def fetchPlan (s : State) : Plan :=
  if execInhibited s s.pc then .become (executeInhibitTrap (afterFetch s))
  else
    match fetched s with
    | .illegal2 => .become (illegalTrap2 (afterFetch s))
    | .illegal3 => .become (illegalTrap3 (afterFetch s))
    | .instr i => .run i { afterFetch s with prefetched := prefetchedAfter i s }

/-- The next instruction, or the next iteration of a repeating one, whose opcode is not fetched again (R458). -/
def nextPlan (s : State) : Plan :=
  match s.repeating with
  | some i => .run i s
  | none => fetchPlan s

/-! ## Boundaries -/

/-- A pending write-protect trap is due: at a fetch, or between two iterations under `WRPROT_REPEAT` =
after_iteration (R907, R924). -/
def trapDue (s : State) : Bool :=
  s.wpPending && !(s.cfg.wrprotRepeat == .afterInstruction && s.repeating.isSome)

/-- The requests sampled at a boundary (R910): DMA, then NMI, then INT, then the fetch. Under `EI_SHADOW` =
one_instruction the boundary after EI takes no maskable request; R1011 does not say whether NMI is held off too, nor
how much of a repeating instruction after EI is protected: NMI and DMA are taken, and the first iteration alone is
protected (DESIGN CHOICE, log 41). -/
def sampleRequests (s : State) : Plan :=
  if dmaRequest s then .become (dmaGrant s)
  else
    let t := dmaRelease s
    if t.nmiLatch then .become (nmiAck t)
    else if intRequest t && t.iff1 && !t.eiShadow then .become (intAck t)
    else nextPlan { t with eiShadow := false }

/-- `Boundary()` of R910. -/
def boundary (s : State) : Plan :=
  if trapDue s then .become (writeProtectTrap s)
  else if s.shadow then nextPlan { s with shadow := false, eiShadow := false }
  else sampleRequests s

/-- One machine cycle of the Halt state (R921). -/
def haltCycle (s : State) : State :=
  if dmaRequest s then dmaGrant s
  else
    let t := dmaRelease s
    if t.nmiLatch then nmiAck t
    else if intRequest t && t.haltIntEn then intAck t
    else t

/-- `SLEEP_EXIT_DISABLED` (R922): the request that ends Sleep while interrupts are disabled. -/
def sleepWakes (s : State) : Bool :=
  match s.cfg.sleepExit with
  | .level => intRequest s
  | .edge => intRequest s && !s.intSeen

/-- One machine cycle of the Sleep state (R922). -/
def sleepCycle (s : State) : State :=
  if dmaRequest s then dmaGrant s
  else
    let t := dmaRelease s
    if t.nmiLatch then nmiAck t
    else if intRequest t && t.iff1 then intAck t
    else if sleepWakes t then { t with run := .running }
    else { t with intSeen := intRequest t }

/-! ## One action -/

/-- The NMI request is latched while the input is high (R113). -/
def sampleNmi (s : State) : State := { s with nmiLatch := s.nmiLatch || s.pins.nmiReq }

/-- One action of the machine: the reset a fatal error forces, or the cycle of its run state. -/
def plan (s : State) : Plan :=
  let t := sampleNmi s
  if t.fatal then .become (fatalReset t)
  else
    match t.run with
    | .running => boundary t
    | .halted => .become (haltCycle t)
    | .sleeping => .become (sleepCycle t)

/-- One step of the machine itself. -/
def machineStep (s : State) : Result := (plan s).result exec

/-! ## Where an instruction is placed -/

/-- The bytes stored at rising logical addresses, wherever those translate to. -/
def placeBytes (la : Word) : List Byte → State → State
  | [], s => s
  | b :: bs, s => placeBytes (la + 1#16) bs { s with mem := s.mem.set (translate s la).toNat b }

/-- Four bytes: an instruction's own, then zeros up to the longest instruction (R300). -/
def padded (bs : List Byte) : List Byte :=
  [bs.getD 0 0#8, bs.getD 1 0#8, bs.getD 2 0#8, bs.getD 3 0#8]

/-- The instruction with these bits, stored at PC. -/
def storeAtPc (nbits w : Nat) (s : State) : State := placeBytes s.pc (padded (instrBytes nbits w)) s

end Sys2Proof.Machine
end

