-- ==== Sys2Proof/Machine/Arrive.lean ====
section
/-! DEFINITION. What the platform does between two actions of the machine and inside one (R1016): an action with wait
requests held, one that a reset or an upset cuts short, one during which `wr_inh` changes, and one during which the
registers are cleared; and one step of the machine (log 7, log 9). -/

namespace Sys2Proof.Machine

/-! ## What an action writes -/

/-- The memory writes of an action, in order: those of its instruction; any other action writes at most the two bytes
of a push. -/
def Plan.stores (p : Plan) (s : State) : List Word :=
  match p with
  | .become _ => pushed s
  | .run i t => Machine.stores i t

/-- The registers an action updates, of those that a reset keeps. -/
def Plan.updates (p : Plan) (s : State) : List Spot :=
  match p with
  | .become _ => []
  | .run i _ => Machine.updates s.isMpu i

/-- The meaning of an instruction that is cut short: the registers it updates are left with any value (R1000). -/
def execCut (i : Instr) (s : State) : Result :=
  match exec i s with
  | .next t => .next (spoil (updates s.isMpu i) t)
  | .fault r => .fault r
  | .refused r => .refused r

/-! ## An action with something inside it -/

/-- An action in which wait requests are held: those with a limit time out, and a request without one holds the
machine for ever (R944, U23). `q` are the pins at t1 of each request's transaction, `w` is `wr_inh` as the action's
memory writes see it. -/
def heldStep (held : List WaitKind) (q : WaitKind → Pins) (w : List AddrRange) (s : State) : Result :=
  match machineStep (withInhibit w { s with late := lateBytes s q held }) with
  | .next t =>
    if waitsForever held q s t then .fault .waitForever
    else .next (recordWaits held q s t { t with late := [], pins := s.pins })
  | .fault r => .fault r
  | .refused r => .refused r

/-- The same, with no change of the pins. -/
def steadyStep (held : List WaitKind) (s : State) : Result := heldStep held (fun _ => s.pins) s.pins.wrInh s

/-- `wr_inh` as the memory writes of the next action see it, where it changes to `new` after `n` transactions of the
action, which ends in `t` (R1016); the CPU version has no such pin. -/
def inhibitDuring (n : Nat) (new : List AddrRange) (s t : State) : List AddrRange :=
  if s.isMpu then splitInhibit s (writesBefore n s t) ((plan s).stores s) s.pins.wrInh new else s.pins.wrInh

/-- An action that an input cuts short after `n` transactions (R1000): no later access is looked at. The wait
requests that had timed out by then are recorded. -/
def cutStep (held : List WaitKind) (n : Nat) (inp : Input) (s : State) : Result :=
  let q := fun _ => s.pins
  let u := { s with late := lateBytes s q (heldBefore held) }
  match machineStep u with
  | .next whole =>
    match (plan (withInhibit (inhibitDuring n [] u whole) u)).result execCut with
    | .next t =>
      let c := cutShort n ((plan u).stores u) s t
      .next (applyInput inp (recordWaits (heldBefore held) q s c c))
    | .fault r => .fault r
    | .refused r => .refused r
  | .fault r => .fault r
  | .refused r => .refused r

/-- An action of the CPU version during which `clearb` initialises the registers, after `n` transactions, or after
all of them where it makes fewer (R1004, R1016): the action goes on. The first `n` transactions are those of the whole
action from `s` to `t`, and the rest are those of the action from `s` with each register cleared or not yet, as a free
bit says, which ends in `u`. A conditional call that has begun its push goes on with it: where the two actions make
different numbers of transactions, all are those of the first (R214). The registers are the cleared ones, but that each
one the action updates may have been updated after that (log 39). -/
def clearedDuring (n : Nat) (las las' : List Word) (us : List Spot) (cleared s t u : State) : State :=
  let n := min n (transactions las s t)
  let decided := decide (0 < n) && transactions las' s u != transactions las s t
  let v := if decided then t else u
  let k := writesBefore n s t
  mixSpots us v
    { v with
      reg := cleared.reg
      alt := cleared.alt
      ix := cleared.ix
      iy := cleared.iy
      mem :=
        copyBytes v.mem (physical s ((if decided then las else las').drop k))
          (copyBytes t.mem (physical s (las.take k)) s.mem)
      busLog := (if 0 < n then t else v).busLog
      free := cleared.free + u.free }

/-- See `clearedDuring`. The free values of the cleared registers come after those that the action uses, fewer than
64. -/
def clearStep (held : List WaitKind) (n : Nat) (s : State) : Result :=
  let cleared := freeRegisters { s with free := s.free + 64 }
  let partly := { mixSpots clearedSpots cleared { s with free := cleared.free } with free := s.free }
  match machineStep s, machineStep partly with
  | .next t, .next u =>
    if waitsForever held (fun _ => s.pins) s t then .fault .waitForever
    else
      .next (clearedDuring n ((plan s).stores s) ((plan partly).stores partly) ((plan s).updates s)
        { cleared with free := cleared.free + clearedSpots.length } s t u)
  | .fault r, _ | _, .fault r => .fault r
  | .refused r, _ | _, .refused r => .refused r

/-- The input, if the step before it answers a next state. -/
def thenInput (inp : Input) (o : Result) : Result :=
  match o with
  | .next t => .next (applyInput inp t)
  | .fault r => .fault r
  | .refused r => .refused r

/-- An action during which the pins change, without a reset: each write sees `wr_inh`, and each transaction its wait
limit, at its own t1; the other pins are looked at where the next action starts (R1016). -/
def pinsStep (held : List WaitKind) (n : Nat) (p : Pins) (s : State) : Result :=
  let q := pinsAt n p s
  let u := { s with late := lateBytes s q held }
  match machineStep u with
  | .next t => thenInput (.pins p) (heldStep held q (inhibitDuring n p.wrInh u t) s)
  | .fault r => .fault r
  | .refused r => .refused r

/-- An action with an input inside it, after `n` of its transactions. -/
def insideStep (held : List WaitKind) (n : Nat) (inp : Input) (s : State) : Result :=
  if cuts inp s then cutStep held n inp s
  else
    match inp with
    | .pins p => pinsStep held n p s
    | .clearb => clearStep held n s
    | .clocks m => thenInput (.clocks m) (steadyStep held s)
    | .resetb => thenInput .resetb (steadyStep held s)
    | .faultDetect la => thenInput (.faultDetect la) (steadyStep held s)
    | .dmaWrite pa v => thenInput (.dmaWrite pa v) (steadyStep held s)
    | .ioData vs => thenInput (.ioData vs) (steadyStep held s)

/-- An arrival that is due. -/
def arrive (a : Arrival) (s : State) : Result :=
  match a with
  | .between inp => .next (applyInput inp s)
  | .during held none => steadyStep held s
  | .during held (some (n, inp)) => insideStep held n inp s

/-! ## One step -/

/-- One step: the platform's next arrival if it is due, else one step of the machine, by which the next arrival
comes nearer (log 7). -/
def scheduledStep (s : State) : Result :=
  match s.sched with
  | [] => machineStep s
  | (0, a) :: rest => arrive a { s with sched := rest }
  | (k + 1, a) :: rest => machineStep { s with sched := (k, a) :: rest }

end Sys2Proof.Machine
end

