-- ==== Sys2Proof/Machine/Step.lean ====
section
/-! DEFINITION. One step of the Y90, and where the next instruction is placed for a single run of it. -/

namespace Sys2Proof.Machine

/-- One step (Sys2Proof/Machine/Arrive.lean says what it does). -/
def step (s : State) : Host.Outcome State Fault Refusal := scheduledStep s

/-- `s` with an instruction's bytes stored where `step` fetches next: at PC, through the present translation
(log 24). -/
def State.withFetchWord (s : State) (nbits w : Nat) : State := storeAtPc nbits w s

end Sys2Proof.Machine
end

