-- ==== Sys2Proof/Safety.lean ====
section
/-! DEFINITION. What counts as a safe run and as an invariant of the machine, in the terms statements use. -/

namespace Sys2Proof.Safety

open Sys2Proof.Machine

/-- The outcome is a next state. -/
def Completes (o : Host.Outcome State Fault Refusal) : Prop := ∃ t, o = .next t

/-- The machine is running and nothing at this boundary comes before the fetch of R910: no input due, no reset,
no trap, no DMA request or grant, no NMI, no enabled maskable request, no repeating instruction. -/
def AtFetch (s : State) : Prop :=
  s.sched = [] ∧ s.fatal = false ∧ s.run = .running ∧ s.wpPending = false ∧ s.nmiLatch = false ∧
    s.pins.nmiReq = false ∧ dmaRequest s = false ∧ s.dma.ack = false ∧ s.dma.cut = false ∧
    (intRequest s && s.iff1) = false ∧ s.repeating = none ∧ s.prefetched = none ∧ s.shadow = false ∧
    s.eiShadow = false

/-- The same, and the byte at PC is not execute-inhibited (R905). -/
def Quiet (s : State) : Prop := AtFetch s ∧ execInhibited s s.pc = false

/-- The ten instructions that repeat (R458). -/
def repeats : Instr → Bool
  | .ldir | .lddr | .cpir | .cpdr | .inir | .indr | .otir | .otdr | .otimr | .otdmr => true
  | _ => false

/-- At most one bit of a byte is set. -/
def atMostOneBit (b : Byte) : Bool := b &&& (b - 1#8) == 0#8

end Sys2Proof.Safety
end

