-- ==== Sys2Proof/Certificates/Slice0/Obligations.lean ====
section
/-! DEFINITION. What the model states about the Y90. The first part names the terms the statements use; each is
arithmetic or a relation between the state before (`s`) and after (`t`), written from the rules and not from the
meanings. The second part is the statements. -/

namespace Sys2Proof.Claims

open Sys2Proof.Machine

/-! ## Outcomes and frames -/

/-- The instruction completes, in a state of which `P` holds. -/
def Runs (i : Instr) (s : State) (P : State → Prop) : Prop := ∃ t, exec i s = .next t ∧ P t

/-- The machine takes a step, to a state of which `P` holds. -/
def Steps (s : State) (P : State → Prop) : Prop := ∃ t, step s = .next t ∧ P t

/-- The state after is `u`, a copy of the state before but for the fields `u` names, and every byte of physical
memory reads as before. -/
def Frame (s t u : State) : Prop := t = u ∧ ∀ pa, t.mem.get pa = s.mem.get pa

/-- An instruction of `k` bytes that writes A and F only. -/
def FrameAF (s t : State) (k : Word) : Prop :=
  Frame s t { s with reg := { s.reg with a := t.reg.a, f := t.reg.f }, pc := s.pc + k, free := t.free }

/-- An instruction of `k` bytes that writes F only. -/
def FrameF (s t : State) (k : Word) : Prop :=
  Frame s t { s with reg := { s.reg with f := t.reg.f }, pc := s.pc + k, free := t.free }

/-- An instruction of `k` bytes that writes F and registers among the general registers, IX, IY and SP; which of
them is said beside it. -/
def FrameRegsF (s t : State) (k : Word) : Prop :=
  Frame s t
    { s with reg := t.reg, ix := t.ix, iy := t.iy, sp := t.sp, pc := s.pc + k, free := t.free }

/-- The same without F: no flag changes and no free value is used. -/
def FrameRegs (s t : State) (k : Word) : Prop :=
  Frame s t { s with reg := t.reg, ix := t.ix, iy := t.iy, sp := t.sp, pc := s.pc + k } ∧ t.reg.f = s.reg.f

/-- Of the seven 8-bit registers only those listed may change; IX, IY and SP do not. -/
def OnlyBytes (rs : List R8) (s t : State) : Prop :=
  (∀ q, q ∉ rs → getR q t = getR q s) ∧ t.ix = s.ix ∧ t.iy = s.iy ∧ t.sp = s.sp

/-- The 8-bit registers that make up a word register (R13). -/
def halves : Pair → List R8
  | .bc => [.b, .c]
  | .de => [.d, .e]
  | .hl => [.h, .l]
  | .af => [.a]
  | .sp | .ix | .iy => []

/-- Of the general registers, IX, IY and SP only one word register may change. -/
def OnlyPair (p : Pair) (s t : State) : Prop :=
  (∀ q, q ∉ halves p → getR q t = getR q s) ∧ (p ≠ .ix → t.ix = s.ix) ∧ (p ≠ .iy → t.iy = s.iy) ∧
    (p ≠ .sp → t.sp = s.sp)

/-- IX or IY as a word register. -/
def idxPair : Idx → Pair
  | .ix => .ix
  | .iy => .iy

/-! ## Flags -/

/-- The byte has an even number of 1 bits (`parity` of R12). -/
def evenOnes (b : Byte) : Bool := decide (((List.range 8).filter fun k => b.getLsbD k).length % 2 = 0)

/-- The six named flags after, and U5 and U3 under `U53_POLICY` = keep (R109; under `any` nothing is known of
them). -/
def SixFlags (s t : State) (sf zf hf pv nf cf : Bool) : Prop :=
  t.reg.f.s = sf ∧ t.reg.f.z = zf ∧ t.reg.f.h = hf ∧ t.reg.f.pv = pv ∧ t.reg.f.n = nf ∧ t.reg.f.c = cf ∧
    (s.cfg.u53 = .keep → t.reg.f.u5 = s.reg.f.u5 ∧ t.reg.f.u3 = s.reg.f.u3)

/-- `res` is x + y + carry modulo 256; S, Z, H (carry out of bit 3), P/V (signed overflow) follow it, N is 0 and
C is `cf`. -/
def ByteSum (s t : State) (x y : Byte) (cin : Bool) (res : Byte) (cf : Bool) : Prop :=
  res.toNat = (x.toNat + y.toNat + cin.toNat) % 256 ∧
    SixFlags s t (decide (128 ≤ res.toNat)) (decide (res.toNat = 0))
      (decide (15 < x.toNat % 16 + y.toNat % 16 + cin.toNat))
      (decide (x.toInt + y.toInt + cin.toNat < -128 ∨ 127 < x.toInt + y.toInt + cin.toNat)) false cf

/-- `res` is x - y - borrow modulo 256; S, Z, H (borrow out of bit 3), P/V (signed overflow) follow it, N is 1
and C is `cf`. -/
def ByteDiff (s t : State) (x y : Byte) (bin : Bool) (res : Byte) (cf : Bool) : Prop :=
  (res.toNat : Int) = ((x.toNat : Int) - y.toNat - bin.toNat) % 256 ∧
    SixFlags s t (decide (128 ≤ res.toNat)) (decide (res.toNat = 0))
      (decide (x.toNat % 16 < y.toNat % 16 + bin.toNat))
      (decide (x.toInt - y.toInt - bin.toNat < -128 ∨ 127 < x.toInt - y.toInt - bin.toNat)) true cf

/-- Carry out of bit 7. -/
def carryOut (x y : Byte) (cin : Bool) : Bool := decide (255 < x.toNat + y.toNat + cin.toNat)

/-- Borrow out of bit 7. -/
def borrowOut (x y : Byte) (bin : Bool) : Bool := decide (x.toNat < y.toNat + bin.toNat)

/-- S, Z and even parity from a result, with the other three flags given. -/
def ResultFlags (s t : State) (res : Byte) (hf nf cf : Bool) : Prop :=
  SixFlags s t (decide (128 ≤ res.toNat)) (decide (res.toNat = 0)) hf (evenOnes res) nf cf

/-- The conditions of R700. -/
def holds (cc : Cond) (f : Flags) : Prop :=
  match cc with
  | .nz => f.z = false
  | .z => f.z = true
  | .nc => f.c = false
  | .c => f.c = true
  | .po => f.pv = false
  | .pe => f.pv = true
  | .p => f.s = false
  | .m => f.s = true

/-! ## Memory -/

/-- The bytes of a word. -/
def low (w : Word) : Byte := w.extractLsb' 0 8

/-- Bits 15:8. -/
def high (w : Word) : Byte := w.extractLsb' 8 8

/-- The word whose low byte is at `la` and whose high byte is at the next address (R203). -/
def wordAt (s : State) (la : Word) : Word := readMem s (la + 1) ++ readMem s la

/-- Memory after a list of byte writes at logical addresses, in that order: a write whose address is
write-inhibited stores nothing (R907), and of the others the last to a physical byte is what it holds; every
other byte is as before. -/
def Bytes (s t : State) (ws : List (Word × Byte)) : Prop :=
  ∀ pa, t.mem.get pa =
    match (ws.filter fun w => !writeInhibited s w.1).reverse.find? fun w => (translate s w.1).toNat = pa with
    | some w => w.2
    | none => s.mem.get pa

/-- What the writes leave in the status latches: nothing if none was inhibited; else the write-protect trap bit,
the last inhibited address, and a pending trap (R907), or on a stack write the fatal error (R909). -/
def Traps (k : WriteKind) (s t : State) (ws : List (Word × Byte)) : Prop :=
  match (ws.filter fun w => writeInhibited s w.1).getLast? with
  | none => t.sys = s.sys ∧ t.wpPending = s.wpPending ∧ t.fatal = s.fatal
  | some w =>
    t.sys =
        { s.sys with
          wpTrap := true
          fatalSeen := s.sys.fatalSeen || k == .stack
          trapLog := w.1
          trapPhys := (translate s w.1).extractLsb' 12 16 } ∧
      t.wpPending = (s.wpPending || k == .data) ∧ t.fatal = (s.fatal || k == .stack)

/-- A list of byte writes, in full. -/
def Stores (k : WriteKind) (s t : State) (ws : List (Word × Byte)) : Prop := Bytes s t ws ∧ Traps k s t ws

/-- The state after is `u` but for memory and for what an inhibited write records. -/
def StoreFrame (t u : State) : Prop :=
  t = { u with mem := t.mem, sys := t.sys, wpPending := t.wpPending, fatal := t.fatal }

/-- `Push16` of R14 from the state `s`. -/
def Pushed (s t : State) (w : Word) : Prop :=
  t.sp = s.sp - 2 ∧ Stores .stack s t [(s.sp - 1, high w), (s.sp - 2, low w)]

/-! ## Operand forms -/

/-- The four source forms of R500: a register, an immediate byte, (HL), (IX+d) or (IY+d). `P` is given the source
byte and the instruction's length. -/
def FourForms (reg : R8 → Instr) (imm : Byte → Instr) (atHl : Instr) (idx : Idx → Byte → Instr) (s : State)
    (P : Byte → Word → State → Prop) : Prop :=
  (∀ r, Runs (reg r) s (P (getR r s) 1)) ∧ (∀ n, Runs (imm n) s (P n 2)) ∧
    Runs atHl s (P (readMem s (getPair .hl s)) 1) ∧
    ∀ y d, Runs (idx y d) s (P (readMem s (getIdx y s + d.signExtend 16)) 3)

/-- The two memory forms: (HL), `k` bytes long, and (IX+d) or (IY+d), `k'` bytes long. `P` is given the address. -/
def TwoMemoryForms (atHl : Instr) (idx : Idx → Byte → Instr) (k k' : Word) (s : State)
    (P : Word → Word → State → Prop) : Prop :=
  Runs atHl s (P (getPair .hl s) k) ∧ ∀ y d, Runs (idx y d) s (P (getIdx y s + d.signExtend 16) k')

/-! ## Input and output -/

/-- One I/O read: the transaction is seen on the bus, and what it delivers is the platform's next announced
byte, where it has announced one. -/
def Input (s t : State) (port : Word) (v : Byte) : Prop :=
  t.busLog = .ioRead port v :: s.busLog ∧
    match s.ioIn with
    | [] => t.ioIn = []
    | x :: xs => v = x ∧ t.ioIn = xs

/-! ## Priorities, traps and resets -/

/-- Index `j` has a higher priority than `k` (R932, R940). -/
def outranks (s : State) (j k : Nat) : Prop :=
  match s.cfg.intPriority with
  | .highIndexFirst => k < j
  | .lowIndexFirst => j < k

/-- Input `k` is pending, none of a higher priority is, and nothing of its own or a higher priority is under
service (R932, R933). -/
def Winner (s : State) (k : Nat) : Prop :=
  k < 16 ∧ s.irq.getLsbD k = true ∧
    ∀ j, j < 16 → (j = k ∨ outranks s j k) → s.ius.getLsbD j = false ∧ (j ≠ k → s.irq.getLsbD j = false)

/-- The step in which an exception is taken: `saved` is pushed, PC becomes `target`, the fetch in progress is
dropped, and the rest is as in `u`. -/
def Entered (u t : State) (saved target : Word) : Prop :=
  Pushed u t saved ∧ t.pc = target ∧
    StoreFrame t { u with sp := u.sp - 2, pc := target, prefetched := none, repeating := none }

/-- The Trap Address takes a logical address and what it translates to (R952). -/
def trapAt (s : State) (la : Word) : SysStat :=
  { s.sys with trapLog := la, trapPhys := (translate s la).extractLsb' 12 16 }

/-- The state before a trap of the illegal-instruction kind pushes: the acknowledge has been seen and the
interrupt flip-flops are as `ILLEGAL_TRAP_IFF` says (R918). -/
def illegalEntry (s : State) (e : BusEvent) : State :=
  { s with
    iff1 := if s.cfg.illegalIff = .cleared then false else s.iff1
    iff2 := if s.cfg.illegalIff = .cleared then false else s.iff2
    busLog := e :: s.busLog }

/-- IllegalInstruction2 (R903, R904), taken from a state whose PC is at the instruction's first byte. -/
def Illegal2 (s t : State) : Prop :=
  Entered
    { illegalEntry s .illegalAck2 with
      sys := if s.cfg.version = .mpu then { trapAt s s.pc with ill2Trap := true } else s.sys }
    t (if s.cfg.illegalStackedPc = .firstByte then s.pc else s.pc + 1) 0

/-- IllegalInstruction3 (R903, R904). -/
def Illegal3 (s t : State) : Prop :=
  Entered
    { illegalEntry s .illegalAck3 with
      sys := if s.cfg.version = .mpu then { trapAt s (s.pc + 2) with ill3Trap := true } else s.sys }
    t (s.pc + 2) 0

/-- The state R123 gives after `resetb`, from the state before: registers, alternates, IX, IY, the status
latches, the RTI generator, the pins, memory and what the platform holds pass through. -/
def afterReset (s : State) : State :=
  { s with
    pc := 0
    sp := s.cfg.resetSp
    i := s.cfg.resetI
    r := s.cfg.resetR
    iff1 := false
    iff2 := false
    im := .im0
    run := .running
    haltIntEn := false
    nmiLatch := false
    prefetched := none
    repeating := none
    shadow := false
    eiShadow := false
    wpPending := false
    fatal := false
    intSeen := false
    mmu := Vector.ofFn fun k => BitVec.ofNat 16 k
    mmuBuf := Vector.ofFn fun k => BitVec.ofNat 16 k
    irq := 0
    ius := 0
    dma := ⟨false, 0, 0, 0, false⟩
    wdt := ⟨false, 0, s.pins.wdtLim, 0⟩ }

/-- Of the registers a reset keeps (R1001), those outside a list hold what they held. -/
def KeptOutside (us : List Spot) (s t : State) : Prop :=
  (∀ q, Spot.reg q ∉ us → getR q t = getR q s) ∧ (Spot.flags ∉ us → t.reg.f = s.reg.f) ∧
    (∀ y, Spot.idx y ∉ us → getIdx y t = getIdx y s) ∧
    (∀ q, Spot.alt q ∉ us → getR q (swapBanks t) = getR q (swapBanks s)) ∧
    (Spot.altFlags ∉ us → t.alt.f = s.alt.f)

/-- What every step keeps: memory canonical and within 28 bits; only a repeating instruction is held; only a
prefix byte is buffered; at most one DUS bit, none without a grant; the Arm Timer within its 256 clocks; no
request latched on a disabled input (MPU); at most two reference edges and three missed ones counted; a time-out
flag of 0 or 1 where the status is not a count; no read left late. -/
def Inv (s : State) : Prop :=
  s.mem.wf = true ∧ (∀ i, s.repeating = some i → Safety.repeats i = true) ∧
    (∀ la b, s.prefetched = some (la, b) → isPrefixByte b = true) ∧
    Safety.atMostOneBit s.dma.dus = true ∧ (s.dma.ack = false → s.dma.dus = 0) ∧ s.wdt.arm ≤ 256 ∧
    (s.cfg.version = .mpu → s.irq &&& ~~~s.pins.intReqEn = 0) ∧ s.rti.edges ≤ 2 ∧ s.rti.missed ≤ 3 ∧
    (s.cfg.dreqAcc = false → s.sys.dreqStat.toNat ≤ 1) ∧ (s.cfg.waitAcc = false → s.sys.waitStat.toNat ≤ 1) ∧
    s.late = []

/-- `n` steps of the machine, all of them to a next state. -/
def stepTimes : Nat → State → Option State
  | 0, s => some s
  | n + 1, s =>
    match step s with
    | .next t => stepTimes n t
    | _ => none

end Sys2Proof.Claims

section

open Sys2Proof Sys2Proof.Machine Sys2Proof.Claims

/-! ## Encoding and the step -/

/-- Decoding the encoding of a well-formed instruction, whatever bytes follow it, gives the instruction (R322). -/
def Obligations.DecodeOfEncode : Prop :=
  ∀ (i : Instr) (rest : List Byte), i.wellFormed = true → decodeBytes (encode i ++ rest) = .instr i

/-- What the decoder accepts is well formed, and the bytes begin with its encoding (R322): no bit pattern is read
as an instruction it does not encode. -/
def Obligations.EncodeOfDecode : Prop :=
  ∀ (b0 b1 b2 b3 : Byte) (i : Instr), decode b0 b1 b2 b3 = .instr i →
    i.wellFormed = true ∧ encode i <+: [b0, b1, b2, b3]

/-- R316: four bytes are illegal exactly when no well-formed instruction's encoding begins them; the trap of the
final byte is that of DD CB d op and FD CB d op with bits 2:0 of op other than 110 or op = 36, and every other
illegal opcode is a second byte after a prefix byte. -/
def Obligations.IllegalOpcodesAndTheirTrap : Prop :=
  ∀ b0 b1 b2 b3 : Byte,
    ((decode b0 b1 b2 b3 = .illegal2 ∨ decode b0 b1 b2 b3 = .illegal3) ↔
      ∀ i : Instr, i.wellFormed = true → ¬ encode i <+: [b0, b1, b2, b3]) ∧
    (decode b0 b1 b2 b3 = .illegal3 ↔
      (b0 = 0xDD ∨ b0 = 0xFD) ∧ b1 = 0xCB ∧ (b3.extractLsb' 0 3 ≠ 6 ∨ b3 = 0x36)) ∧
    (decode b0 b1 b2 b3 = .illegal2 → b0 = 0xCB ∨ b0 = 0xDD ∨ b0 = 0xED ∨ b0 = 0xFD)

/-- Words written out from the encodings of R500, R416, R614, R403, R616, R563, R417, R451 and R862, with two illegal opcodes
of R316. -/
def Obligations.SpecWordsDecode : Prop :=
  decode 0b10000001 0 0 0 = .instr (.addAR .c) ∧
    decode 0b00101010 0x00 0x90 0 = .instr (.ldHlFromMn 0x9000) ∧
    decode 0b11001011 0b01111111 0 0 = .instr (.bitR 7 .a) ∧
    decode 0b11011101 0b01111110 0xFF 0 = .instr (.ldRX .a .ix 0xFF) ∧
    decode 0b11111101 0b11001011 0xFF 0b10111110 = .instr (.resX 7 .iy 0xFF) ∧
    decode 0b11101101 0b01000010 0 0 = .instr (.sbcHlSs .bc) ∧
    decode 0b11101101 0b01111011 0x00 0x90 = .instr (.ldDdFromMn .sp 0x9000) ∧
    decode 0b11101101 0b10110000 0 0 = .instr .ldir ∧
    decode 0b11101101 0b10001000 0 0 = .instr .ldmsMmu ∧
    decode 0b11101101 0b01110000 0 0 = .illegal2 ∧ decode 0xDD 0xCB 0 0x36 = .illegal3

/-- A step runs the decoded instruction. Where nothing comes before the fetch and the bytes at PC decode to a
well-formed `i`, a step is `exec i`; all a step adds is the prefetch of R218, which needs `en_prftch`. Which
instructions prefetch is the model's reading of R114 and R218 (log 13, log 34). -/
def Obligations.StepRunsDecodedInstruction : Prop :=
  ∀ (s : State) (i : Instr), Safety.Quiet s → i.wellFormed = true →
    decode (readMem s s.pc) (readMem s (s.pc + 1)) (readMem s (s.pc + 2)) (readMem s (s.pc + 3)) = .instr i →
    step s = exec i { s with prefetched := prefetchedAfter i s } ∧
      (s.pins.enPrftch = false → step s = exec i s)

/-! ## 8-bit arithmetic and logic -/

/-- R504, R505: ADD and ADC, every operand form, result, flags and frame. -/
def Obligations.AddAndAdcCompute : Prop :=
  ∀ s : State,
    FourForms .addAR .addAN .addAM .addAX s (fun src k t =>
      FrameAF s t k ∧ ByteSum s t s.reg.a src false t.reg.a (carryOut s.reg.a src false)) ∧
    FourForms .adcAR .adcAN .adcAM .adcAX s (fun src k t =>
      FrameAF s t k ∧ ByteSum s t s.reg.a src s.reg.f.c t.reg.a (carryOut s.reg.a src s.reg.f.c))

/-- R506, R507, R511, R514: SUB, SBC, CP (which keeps A) and NEG, result, flags and frame. That SUB, SBC and NEG
set N is the correction of R503 (C13). -/
def Obligations.SubtractGroupComputes : Prop :=
  ∀ s : State,
    FourForms .subAR .subAN .subAM .subAX s (fun src k t =>
      FrameAF s t k ∧ ByteDiff s t s.reg.a src false t.reg.a (borrowOut s.reg.a src false)) ∧
    FourForms .sbcAR .sbcAN .sbcAM .sbcAX s (fun src k t =>
      FrameAF s t k ∧ ByteDiff s t s.reg.a src s.reg.f.c t.reg.a (borrowOut s.reg.a src s.reg.f.c)) ∧
    FourForms .cpAR .cpAN .cpAM .cpAX s (fun src k t =>
      FrameF s t k ∧ ∃ res, ByteDiff s t s.reg.a src false res (borrowOut s.reg.a src false)) ∧
    Runs .neg s (fun t =>
      FrameAF s t 2 ∧ ByteDiff s t 0 s.reg.a false t.reg.a (decide (s.reg.a ≠ 0)))

/-- R508, R509, R510, R519: AND, XOR, OR and TST (which keeps A), bit by bit, with flags and frame. -/
def Obligations.LogicGroupComputes : Prop :=
  ∀ s : State,
    FourForms .andAR .andAN .andAM .andAX s (fun src k t =>
      FrameAF s t k ∧ (∀ b, t.reg.a.getLsbD b = (s.reg.a.getLsbD b && src.getLsbD b)) ∧
        ResultFlags s t t.reg.a true false false) ∧
    FourForms .xorAR .xorAN .xorAM .xorAX s (fun src k t =>
      FrameAF s t k ∧ (∀ b, t.reg.a.getLsbD b = (s.reg.a.getLsbD b != src.getLsbD b)) ∧
        ResultFlags s t t.reg.a false false false) ∧
    FourForms .orAR .orAN .orAM .orAX s (fun src k t =>
      FrameAF s t k ∧ (∀ b, t.reg.a.getLsbD b = (s.reg.a.getLsbD b || src.getLsbD b)) ∧
        ResultFlags s t t.reg.a false false false) ∧
    (∀ r, Runs (.tstR r) s fun t => FrameF s t 2 ∧ ResultFlags s t (s.reg.a &&& getR r s) true false false) ∧
    (∀ n, Runs (.tstN n) s fun t => FrameF s t 3 ∧ ResultFlags s t (s.reg.a &&& n) true false false) ∧
    Runs .tstM s fun t =>
      FrameF s t 2 ∧ ResultFlags s t (s.reg.a &&& readMem s (getPair .hl s)) true false false

/-- R502, R512, R513, R907: INC and DEC of a register or a memory byte. C is unchanged, and the flags are those
of the result whether or not the write is inhibited. DEC is the spec's supply for a lost entry (R513, log 25).
-/
def Obligations.IncDecByteCompute : Prop :=
  ∀ s : State,
    (∀ r,
      Runs (.incR r) s (fun t =>
        FrameRegsF s t 1 ∧ OnlyBytes [r] s t ∧ ByteSum s t (getR r s) 1 false (getR r t) s.reg.f.c) ∧
      Runs (.decR r) s (fun t =>
        FrameRegsF s t 1 ∧ OnlyBytes [r] s t ∧ ByteDiff s t (getR r s) 1 false (getR r t) s.reg.f.c)) ∧
    TwoMemoryForms .incM .incX 1 3 s (fun la k t =>
      ∃ res, Stores .data s t [(la, res)] ∧ ByteSum s t (readMem s la) 1 false res s.reg.f.c ∧
        StoreFrame t { s with reg := { s.reg with f := t.reg.f }, pc := s.pc + k, free := t.free }) ∧
    TwoMemoryForms .decM .decX 1 3 s (fun la k t =>
      ∃ res, Stores .data s t [(la, res)] ∧ ByteDiff s t (readMem s la) 1 false res s.reg.f.c ∧
        StoreFrame t { s with reg := { s.reg with f := t.reg.f }, pc := s.pc + k, free := t.free })

/-- R515, R517, R518: CPL, CCF (with `CCF_MODE`) and SCF. -/
def Obligations.ComplementAndCarryOps : Prop :=
  ∀ s : State,
    Runs .cpl s (fun t =>
      FrameAF s t 1 ∧ (∀ b, b < 8 → t.reg.a.getLsbD b = !s.reg.a.getLsbD b) ∧
        SixFlags s t s.reg.f.s s.reg.f.z true s.reg.f.pv true s.reg.f.c) ∧
    Runs .ccf s (fun t =>
      FrameF s t 1 ∧
        SixFlags s t s.reg.f.s s.reg.f.z (s.reg.f.c && s.cfg.ccfMode == .z80) s.reg.f.pv false (!s.reg.f.c)) ∧
    Runs .scf s (fun t =>
      FrameF s t 1 ∧ SixFlags s t s.reg.f.s s.reg.f.z false s.reg.f.pv false true)

/-- The inputs the table of R516 lists. -/
def Sys2Proof.Claims.daaListed (f : Flags) (a : Byte) : Prop :=
  let hi := a.toNat / 16
  let lo := a.toNat % 16
  match f.n, f.c, f.h with
  | false, false, false => True
  | false, false, true => lo ≤ 3
  | false, true, false => hi ≤ 2
  | false, true, true => hi ≤ 3 ∧ lo ≤ 3
  | true, false, false => hi ≤ 9 ∧ lo ≤ 9
  | true, false, true => hi ≤ 8 ∧ 6 ≤ lo
  | true, true, false => 7 ≤ hi ∧ lo ≤ 9
  | true, true, true => 6 ≤ hi ∧ 6 ≤ lo

/-- R516: DAA. On every input of the table, and under `DAA_OUTSIDE_TABLE` = z80 on every input, the decimal
adjustment with its flags (H is left open); elsewhere A, S, Z, H, P/V and C are left open. N never changes. What
stands outside the table is decision D10; that H is left open is U5 (log 11). -/
def Obligations.DaaAdjusts : Prop :=
  ∀ s : State,
    Runs .daa s fun t =>
      FrameAF s t 1 ∧ t.reg.f.n = s.reg.f.n ∧
        (s.cfg.u53 = .keep → t.reg.f.u5 = s.reg.f.u5 ∧ t.reg.f.u3 = s.reg.f.u3) ∧
        (Claims.daaListed s.reg.f s.reg.a ∨ s.cfg.daaOutside = .z80 →
          let fix : Int :=
            (if s.reg.f.h = true ∨ 9 < s.reg.a.toNat % 16 then 6 else 0) +
              (if s.reg.f.c = true ∨ 0x99 < s.reg.a.toNat then 0x60 else 0)
          (t.reg.a.toNat : Int) = (if s.reg.f.n then s.reg.a.toNat - fix else s.reg.a.toNat + fix) % 256 ∧
            ResultFlags s t t.reg.a t.reg.f.h s.reg.f.n (s.reg.f.c || decide (0x99 < s.reg.a.toNat)))

/-! ## 16-bit arithmetic -/

/-- R560, R561: ADD HL, ADD IX and ADD IY. S, Z and P/V are unchanged. -/
def Obligations.AddWordComputes : Prop :=
  ∀ s : State,
    let adds (d : Pair) (x y : Word) (k : Word) (t : State) : Prop :=
      FrameRegsF s t k ∧ OnlyPair d s t ∧ (getPair d t).toNat = (x.toNat + y.toNat) % 65536 ∧
        SixFlags s t s.reg.f.s s.reg.f.z (decide (4095 < x.toNat % 4096 + y.toNat % 4096)) s.reg.f.pv false
          (decide (65535 < x.toNat + y.toNat))
    (∀ p, p.inDd = true → Runs (.addHlSs p) s (adds .hl (getPair .hl s) (getPair p s) 1)) ∧
      (∀ p, p.inXx = true → Runs (.addIxXx p) s (adds .ix s.ix (getPair p s) 2)) ∧
      ∀ p, p.inYy = true → Runs (.addIyYy p) s (adds .iy s.iy (getPair p s) 2)

/-- R562, R563: ADC HL and SBC HL, with all six flags over 16 bits. The N and C of SBC are the corrections C13
and C14. -/
def Obligations.AdcSbcWordCompute : Prop :=
  ∀ (s : State) (p : Pair), p.inDd = true →
    let x := getPair .hl s
    let y := getPair p s
    let c := s.reg.f.c.toNat
    Runs (.adcHlSs p) s (fun t =>
      FrameRegsF s t 2 ∧ OnlyPair .hl s t ∧ (getPair .hl t).toNat = (x.toNat + y.toNat + c) % 65536 ∧
        SixFlags s t (decide (32768 ≤ (getPair .hl t).toNat)) (decide ((getPair .hl t).toNat = 0))
          (decide (4095 < x.toNat % 4096 + y.toNat % 4096 + c))
          (decide (x.toInt + y.toInt + c < -32768 ∨ 32767 < x.toInt + y.toInt + c)) false
          (decide (65535 < x.toNat + y.toNat + c))) ∧
    Runs (.sbcHlSs p) s (fun t =>
      FrameRegsF s t 2 ∧ OnlyPair .hl s t ∧
        ((getPair .hl t).toNat : Int) = ((x.toNat : Int) - y.toNat - c) % 65536 ∧
        SixFlags s t (decide (32768 ≤ (getPair .hl t).toNat)) (decide ((getPair .hl t).toNat = 0))
          (decide (x.toNat % 4096 < y.toNat % 4096 + c))
          (decide (x.toInt - y.toInt - c < -32768 ∨ 32767 < x.toInt - y.toInt - c)) true
          (decide (x.toNat < y.toNat + c)))

/-- R564 to R567: INC and DEC of a word register, modulo 2^16, with no flag. The two DEC forms are the spec's
supply for lost entries (log 25). -/
def Obligations.IncDecWordCompute : Prop :=
  ∀ s : State,
    (∀ p, p.inDd = true →
      Runs (.incSs p) s (fun t =>
        FrameRegs s t 1 ∧ OnlyPair p s t ∧ (getPair p t).toNat = ((getPair p s).toNat + 1) % 65536) ∧
      Runs (.decSs p) s (fun t =>
        FrameRegs s t 1 ∧ OnlyPair p s t ∧ (getPair p t).toNat = ((getPair p s).toNat + 65535) % 65536)) ∧
    ∀ y,
      Runs (.incXy y) s (fun t =>
        FrameRegs s t 2 ∧ OnlyPair (idxPair y) s t ∧ (getIdx y t).toNat = ((getIdx y s).toNat + 1) % 65536) ∧
      Runs (.decXy y) s (fun t =>
        FrameRegs s t 2 ∧ OnlyPair (idxPair y) s t ∧
          (getIdx y t).toNat = ((getIdx y s).toNat + 65535) % 65536)

/-- R520: MLT multiplies the two halves of a word register, exactly, with no flag; SP is one of the four. -/
def Obligations.MultiplyHalvesComputes : Prop :=
  ∀ (s : State) (p : Pair), p.inDd = true →
    Runs (.mltSs p) s fun t =>
      FrameRegs s t 2 ∧ OnlyPair p s t ∧
        (getPair p t).toNat = (getPair p s).toNat / 256 * ((getPair p s).toNat % 256)

/-! ## Loads, stack, exchanges -/

/-- R400 to R403, R408, R409: the 8-bit loads into a register. No flag and no other register changes. -/
def Obligations.ByteLoadsIntoRegisters : Prop :=
  ∀ s : State,
    let loads (r : R8) (v : Byte) (k : Word) (t : State) : Prop :=
      FrameRegs s t k ∧ OnlyBytes [r] s t ∧ getR r t = v
    (∀ r q, Runs (.ldRR r q) s (loads r (getR q s) 1)) ∧ (∀ r n, Runs (.ldRN r n) s (loads r n 2)) ∧
      (∀ r, Runs (.ldRM r) s (loads r (readMem s (getPair .hl s)) 1)) ∧
      (∀ r y d, Runs (.ldRX r y d) s (loads r (readMem s (getIdx y s + d.signExtend 16)) 3)) ∧
      Runs .ldABc s (loads .a (readMem s (getPair .bc s)) 1) ∧
      Runs .ldADe s (loads .a (readMem s (getPair .de s)) 1) ∧
      ∀ mn, Runs (.ldAMn mn) s (loads .a (readMem s mn) 3)

/-- R404 to R407, R410, R411, R907: the 8-bit stores. Only the byte addressed changes, and nothing where the
write is inhibited. The forms of R404 to R407 are the spec's supply for lost entries (log 25). -/
def Obligations.ByteStoresToMemory : Prop :=
  ∀ s : State,
    let stores (la : Word) (v : Byte) (k : Word) (t : State) : Prop :=
      Stores .data s t [(la, v)] ∧ StoreFrame t { s with pc := s.pc + k }
    (∀ r, Runs (.ldMR r) s (stores (getPair .hl s) (getR r s) 1)) ∧
      (∀ y d r, Runs (.ldXR y d r) s (stores (getIdx y s + d.signExtend 16) (getR r s) 3)) ∧
      (∀ n, Runs (.ldMN n) s (stores (getPair .hl s) n 2)) ∧
      (∀ y d n, Runs (.ldXN y d n) s (stores (getIdx y s + d.signExtend 16) n 4)) ∧
      Runs .ldBcA s (stores (getPair .bc s) s.reg.a 1) ∧ Runs .ldDeA s (stores (getPair .de s) s.reg.a 1) ∧
      ∀ mn, Runs (.ldMnA mn) s (stores mn s.reg.a 3)

/-- R412, R413: the special registers I and R. LD A,I and LD A,R write S, Z, H, P/V (from IFF2) and N; R counts
no fetch, so it holds what LD R,A last wrote. -/
def Obligations.SpecialRegisterLoads : Prop :=
  ∀ s : State,
    let loads (v : Byte) (t : State) : Prop :=
      FrameAF s t 2 ∧ t.reg.a = v ∧
        SixFlags s t (decide (128 ≤ v.toNat)) (decide (v.toNat = 0)) false s.iff2 false s.reg.f.c
    Runs .ldAI s (loads s.i) ∧ Runs .ldAR s (loads s.r) ∧
      Runs .ldIA s (fun t => Frame s t { s with i := s.reg.a, pc := s.pc + 2 }) ∧
      Runs .ldRA s (fun t => Frame s t { s with r := s.reg.a, pc := s.pc + 2 })

/-- R414 to R418, R422, R423: the 16-bit loads. A word in memory has its low byte at the lower address. For the
direct loads that byte order is the inference of R203. -/
def Obligations.WordLoadsIntoRegisters : Prop :=
  ∀ s : State,
    let loads (p : Pair) (w : Word) (k : Word) (t : State) : Prop :=
      FrameRegs s t k ∧ OnlyPair p s t ∧ getPair p t = w
    (∀ p mn, p.inDd = true → Runs (.ldDdMn p mn) s (loads p mn 3)) ∧
      (∀ y mn, Runs (.ldXyMn y mn) s (loads (idxPair y) mn 4)) ∧
      (∀ mn, Runs (.ldHlFromMn mn) s (loads .hl (wordAt s mn) 3)) ∧
      (∀ p mn, p.inDd = true → Runs (.ldDdFromMn p mn) s (loads p (wordAt s mn) 4)) ∧
      (∀ y mn, Runs (.ldXyFromMn y mn) s (loads (idxPair y) (wordAt s mn) 4)) ∧
      Runs .ldSpHl s (loads .sp (getPair .hl s) 1) ∧
      ∀ y, Runs (.ldSpXy y) s (loads .sp (getIdx y s) 2)

/-- R419 to R421: the 16-bit stores, low byte first and each byte checked by itself. That the Trap Address holds
the last of two inhibited bytes is the order of R204 and the choice of U8 in 93_implementation_defined.md. -/
def Obligations.WordStoresToMemory : Prop :=
  ∀ (s : State) (mn : Word),
    let stores (w : Word) (k : Word) (t : State) : Prop :=
      Stores .data s t [(mn, low w), (mn + 1, high w)] ∧ StoreFrame t { s with pc := s.pc + k }
    Runs (.ldMnHl mn) s (stores (getPair .hl s) 3) ∧
      (∀ p, p.inDd = true → Runs (.ldMnSs mn p) s (stores (getPair p s) 4)) ∧
      ∀ y, Runs (.ldMnXy mn y) s (stores (getIdx y s) 4)

/-- R424, R425, R909: PUSH. The high byte lies at SP - 1, the low byte at SP - 2; AF is A and all eight bits of F;
an inhibited byte is a fatal error. That PUSH still completes then, and that the reset is a later step, is the
model's choice (log 12); that the Trap Address holds the last inhibited byte is the choice of U8 in
93_implementation_defined.md (log 35). -/
def Obligations.PushStoresWord : Prop :=
  ∀ s : State,
    let pushes (w : Word) (k : Word) (t : State) : Prop :=
      Pushed s t w ∧ StoreFrame t { s with sp := s.sp - 2, pc := s.pc + k }
    (∀ p, p.inTt = true → Runs (.pushTt p) s (pushes (getPair p s) 1)) ∧
      (∀ y, Runs (.pushXy y) s (pushes (getIdx y s) 2)) ∧
      getPair .af s = s.reg.a ++ (BitVec.ofBool s.reg.f.s ++ BitVec.ofBool s.reg.f.z ++
        BitVec.ofBool s.reg.f.u5 ++ BitVec.ofBool s.reg.f.h ++ BitVec.ofBool s.reg.f.u3 ++
        BitVec.ofBool s.reg.f.pv ++ BitVec.ofBool s.reg.f.n ++ BitVec.ofBool s.reg.f.c)

/-- R426, R427: POP. SP rises by 2; POP AF loads all eight bits of F, and every other POP leaves F alone. POP is
the spec's supply for a lost entry (log 25). -/
def Obligations.PopLoadsWord : Prop :=
  ∀ s : State,
    (∀ p, p.inTt = true → Runs (.popTt p) s fun t =>
      Frame s t { s with reg := t.reg, sp := s.sp + 2, pc := s.pc + 1 } ∧
        (∀ q, q ∉ halves p → getR q t = getR q s) ∧ getPair p t = wordAt s s.sp ∧
        (p ≠ .af → t.reg.f = s.reg.f)) ∧
    ∀ y, Runs (.popXy y) s fun t =>
      Frame s t { s with ix := t.ix, iy := t.iy, sp := s.sp + 2, pc := s.pc + 2 } ∧
        getIdx y t = wordAt s s.sp ∧ (y = .ix → t.iy = s.iy) ∧ (y = .iy → t.ix = s.ix)

/-- R428, R429, R430: the register exchanges. -/
def Obligations.RegisterExchanges : Prop :=
  ∀ s : State,
    Runs .exDeHl s (fun t =>
      Frame s t
        { s with
          reg := { s.reg with d := s.reg.h, e := s.reg.l, h := s.reg.d, l := s.reg.e }
          pc := s.pc + 1 }) ∧
    Runs .exAfAf s (fun t =>
      Frame s t
        { s with
          reg := { s.reg with a := s.alt.a, f := s.alt.f }
          alt := { s.alt with a := s.reg.a, f := s.reg.f }
          pc := s.pc + 1 }) ∧
    Runs .exx s (fun t =>
      Frame s t
        { s with
          reg := { s.reg with
            b := s.alt.b, c := s.alt.c, d := s.alt.d, e := s.alt.e, h := s.alt.h, l := s.alt.l }
          alt := { s.alt with
            b := s.reg.b, c := s.reg.c, d := s.reg.d, e := s.reg.e, h := s.reg.h, l := s.reg.l }
          pc := s.pc + 1 })

/-- R431, R432: the exchange with the word on top of the stack; SP is unchanged. Whether its two writes count as
stack writes is `EXSP_IS_STACK_WRITE` (R909). The order of the two writes, which decides the Trap Address, is
decision D5 (log 32). That the exchange completes where they are stack writes and inhibited, with the fatal latch
set and the reset a later step, is the model's choice (log 12). -/
def Obligations.StackTopExchange : Prop :=
  ∀ s : State,
    let kind : WriteKind := if s.cfg.exspIsStackWrite then .stack else .data
    let exchanges (p : Pair) (k : Word) (t : State) : Prop :=
      Stores kind s t [(s.sp, low (getPair p s)), (s.sp + 1, high (getPair p s))] ∧
        StoreFrame t { s with reg := t.reg, ix := t.ix, iy := t.iy, pc := s.pc + k } ∧
        t.reg.f = s.reg.f ∧ OnlyPair p s t ∧ getPair p t = wordAt s s.sp
    Runs .exSpHl s (exchanges .hl 1) ∧ ∀ y, Runs (.exSpXy y) s (exchanges (idxPair y) 2)

/-! ## Block transfer and search -/

/-- One iteration of block transfer, with `d` added to HL and DE (R450, R452); PC and the held instruction are
said apart. -/
def Sys2Proof.Claims.TransferIteration (d : Word) (s t : State) : Prop :=
  Stores .data s t [(getPair .de s, readMem s (getPair .hl s))] ∧
    StoreFrame t { s with reg := t.reg, pc := t.pc, repeating := t.repeating, free := t.free } ∧
    t.reg.a = s.reg.a ∧ getPair .hl t = getPair .hl s + d ∧ getPair .de t = getPair .de s + d ∧
    getPair .bc t = getPair .bc s - 1 ∧
    SixFlags s t s.reg.f.s s.reg.f.z false (decide (getPair .bc t ≠ 0)) false s.reg.f.c

/-- One iteration of block search (R454, R456). -/
def Sys2Proof.Claims.SearchIteration (d : Word) (s t : State) : Prop :=
  Frame s t { s with reg := t.reg, pc := t.pc, repeating := t.repeating, free := t.free } ∧
    (∀ q, q ∉ [R8.b, .c, .h, .l] → getR q t = getR q s) ∧ getPair .hl t = getPair .hl s + d ∧
    getPair .bc t = getPair .bc s - 1 ∧
    ∃ res : Byte,
      (res.toNat : Int) = ((s.reg.a.toNat : Int) - (readMem s (getPair .hl s)).toNat) % 256 ∧
        SixFlags s t (decide (128 ≤ res.toNat)) (decide (s.reg.a = readMem s (getPair .hl s)))
          (decide (s.reg.a.toNat % 16 < (readMem s (getPair .hl s)).toNat % 16))
          (decide (getPair .bc t ≠ 0)) true s.reg.f.c

/-- A form that does not repeat moves PC past its two bytes (R129). -/
def Sys2Proof.Claims.Once (s t : State) : Prop := t.pc = s.pc + 2 ∧ t.repeating = s.repeating

/-- A repeating form: while `again` holds PC stays at the instruction, whose opcode is kept; else it is complete
(R458). -/
def Sys2Proof.Claims.Repeats (i : Instr) (again : Prop) (s t : State) : Prop :=
  (again → t.pc = s.pc ∧ t.repeating = some i) ∧ (¬ again → t.pc = s.pc + 2 ∧ t.repeating = none)

/-- R450 to R453: LDI, LDD, LDIR and LDDR, one iteration each. The repeat test comes after the decrement. That a
repeating instruction keeps its opcode is the inference of R458 (log 14). -/
def Obligations.BlockTransferIterates : Prop :=
  ∀ s : State,
    Runs .ldi s (fun t => Claims.TransferIteration 1 s t ∧ Claims.Once s t) ∧
    Runs .ldd s (fun t => Claims.TransferIteration (-1) s t ∧ Claims.Once s t) ∧
    Runs .ldir s (fun t =>
      Claims.TransferIteration 1 s t ∧ Claims.Repeats .ldir (getPair .bc t ≠ 0) s t) ∧
    Runs .lddr s (fun t =>
      Claims.TransferIteration (-1) s t ∧ Claims.Repeats .lddr (getPair .bc t ≠ 0) s t)

/-- R454 to R457: CPI, CPD, CPIR and CPDR, one iteration each; a match or an exhausted count ends a repeat. That
a repeating instruction keeps its opcode is the inference of R458 (log 14). -/
def Obligations.BlockSearchIterates : Prop :=
  ∀ s : State,
    let again (t : State) : Prop := getPair .bc t ≠ 0 ∧ s.reg.a ≠ readMem s (getPair .hl s)
    Runs .cpi s (fun t => Claims.SearchIteration 1 s t ∧ Claims.Once s t) ∧
    Runs .cpd s (fun t => Claims.SearchIteration (-1) s t ∧ Claims.Once s t) ∧
    Runs .cpir s (fun t => Claims.SearchIteration 1 s t ∧ Claims.Repeats .cpir (again t) s t) ∧
    Runs .cpdr s (fun t => Claims.SearchIteration (-1) s t ∧ Claims.Repeats .cpdr (again t) s t)

/-- LDIR copies a block. In the CPU version, from a state in which nothing comes before the fetch, with the
bytes ED B0 at PC, BC = n > 0, and a source and a destination of n bytes that neither wrap nor overlap, n steps
of the machine complete the instruction: BC = 0, HL and DE are past the blocks, PC is past the instruction, the
destination holds the source, and every other byte is as before. The destination may cover the instruction's own
two bytes, which are not fetched again (R451, R458). The last sentence is the inference of R458, case (i) (log
14). No memory read of these steps is late (log 18). -/
def Obligations.LdirCopiesBlock : Prop :=
  ∀ (s : State) (n : Nat), Safety.Quiet s → s.late = [] → s.cfg.version = .cpu → readMem s s.pc = 0xED →
    readMem s (s.pc + 1) = 0xB0 → 0 < n → (getPair .bc s).toNat = n →
    (getPair .hl s).toNat + n ≤ 65536 → (getPair .de s).toNat + n ≤ 65536 →
    ((getPair .hl s).toNat + n ≤ (getPair .de s).toNat ∨ (getPair .de s).toNat + n ≤ (getPair .hl s).toNat) →
    ∃ t, stepTimes n s = some t ∧ t.repeating = none ∧ t.pc = s.pc + 2 ∧ getPair .bc t = 0 ∧
      getPair .hl t = getPair .hl s + BitVec.ofNat 16 n ∧ getPair .de t = getPair .de s + BitVec.ofNat 16 n ∧
      t.reg.a = s.reg.a ∧ t.reg.f.pv = false ∧
      ∀ la : Word, readMem t la =
        if (getPair .de s).toNat ≤ la.toNat ∧ la.toNat < (getPair .de s).toNat + n then
          readMem s (getPair .hl s + (la - getPair .de s))
        else readMem s la

/-! ## Rotates, shifts, bits -/

/-- The result of a left move with `b` coming in at bit 0, and of a right move with `b` coming in at bit 7. -/
def Sys2Proof.Claims.movedLeft (x : Byte) (b : Bool) (res : Byte) : Prop := res.toNat = (2 * x.toNat + b.toNat) % 256

/-- See `movedLeft`. -/
def Sys2Proof.Claims.movedRight (x : Byte) (b : Bool) (res : Byte) : Prop := res.toNat = x.toNat / 2 + 128 * b.toNat

/-- Bit 7 and bit 0 of a byte, from its number. -/
def Sys2Proof.Claims.topBit (x : Byte) : Bool := decide (128 ≤ x.toNat)

/-- See `topBit`. -/
def Sys2Proof.Claims.bottomBit (x : Byte) : Bool := decide (x.toNat % 2 = 1)

/-- The operation of each of the seven rotates and shifts (R605 to R611): given the carry before and the operand,
the result and the bit moved out, which C takes. -/
def Sys2Proof.Claims.shiftOf (k : Shift) (c : Bool) (x res : Byte) (out : Bool) : Prop :=
  match k with
  | .rlc => Claims.movedLeft x (Claims.topBit x) res ∧ out = Claims.topBit x
  | .rl => Claims.movedLeft x c res ∧ out = Claims.topBit x
  | .sla => Claims.movedLeft x false res ∧ out = Claims.topBit x
  | .rrc => Claims.movedRight x (Claims.bottomBit x) res ∧ out = Claims.bottomBit x
  | .rr => Claims.movedRight x c res ∧ out = Claims.bottomBit x
  | .sra => Claims.movedRight x (Claims.topBit x) res ∧ out = Claims.bottomBit x
  | .srl => Claims.movedRight x false res ∧ out = Claims.bottomBit x

/-- R600 to R603: the accumulator rotates write A, H, N and C only. -/
def Obligations.AccumulatorRotates : Prop :=
  ∀ s : State,
    let rotates (k : Shift) (t : State) : Prop :=
      FrameAF s t 1 ∧
        ∃ out, Claims.shiftOf k s.reg.f.c s.reg.a t.reg.a out ∧
          SixFlags s t s.reg.f.s s.reg.f.z false s.reg.f.pv false out
    Runs .rlca s (rotates .rlc) ∧ Runs .rla s (rotates .rl) ∧ Runs .rrca s (rotates .rrc) ∧
      Runs .rra s (rotates .rr)

/-- R604 to R611: the CB-page rotates and shifts on a register, on (HL), and on (IX+d) or (IY+d). -/
def Obligations.RotatesAndShifts : Prop :=
  ∀ s : State,
    let onReg (k : Shift) (r : R8) (t : State) : Prop :=
      FrameRegsF s t 2 ∧ OnlyBytes [r] s t ∧
        ∃ out, Claims.shiftOf k s.reg.f.c (getR r s) (getR r t) out ∧ ResultFlags s t (getR r t) false false out
    let onMem (k : Shift) (la n : Word) (t : State) : Prop :=
      ∃ res out, Claims.shiftOf k s.reg.f.c (readMem s la) res out ∧ ResultFlags s t res false false out ∧
        Stores .data s t [(la, res)] ∧
        StoreFrame t { s with reg := { s.reg with f := t.reg.f }, pc := s.pc + n, free := t.free }
    (∀ r, Runs (.rlcR r) s (onReg .rlc r)) ∧ TwoMemoryForms .rlcM .rlcX 2 4 s (onMem .rlc) ∧
      (∀ r, Runs (.rrcR r) s (onReg .rrc r)) ∧ TwoMemoryForms .rrcM .rrcX 2 4 s (onMem .rrc) ∧
      (∀ r, Runs (.rlR r) s (onReg .rl r)) ∧ TwoMemoryForms .rlM .rlX 2 4 s (onMem .rl) ∧
      (∀ r, Runs (.rrR r) s (onReg .rr r)) ∧ TwoMemoryForms .rrM .rrX 2 4 s (onMem .rr) ∧
      (∀ r, Runs (.slaR r) s (onReg .sla r)) ∧ TwoMemoryForms .slaM .slaX 2 4 s (onMem .sla) ∧
      (∀ r, Runs (.sraR r) s (onReg .sra r)) ∧ TwoMemoryForms .sraM .sraX 2 4 s (onMem .sra) ∧
      (∀ r, Runs (.srlR r) s (onReg .srl r)) ∧ TwoMemoryForms .srlM .srlX 2 4 s (onMem .srl)

/-- R612, R613: the digit rotates, on the four digits of A and (HL). C is unchanged. -/
def Obligations.DigitRotates : Prop :=
  ∀ s : State,
    let m := (readMem s (getPair .hl s)).toNat
    let a := s.reg.a.toNat
    let rotates (toMem toLow : Nat) (t : State) : Prop :=
      t.reg.a.toNat = 16 * (a / 16) + toLow ∧ ResultFlags s t t.reg.a false false s.reg.f.c ∧
        Stores .data s t [(getPair .hl s, BitVec.ofNat 8 toMem)] ∧
        StoreFrame t
          { s with reg := { s.reg with a := t.reg.a, f := t.reg.f }, pc := s.pc + 2, free := t.free }
    Runs .rld s (rotates (16 * (m % 16) + a % 16) (m / 16)) ∧
      Runs .rrd s (rotates (16 * (a % 16) + m / 16) (m % 16))

/-- R614: BIT. Z is the complement of the bit; S, P/V and C are unchanged and the operand is not written. -/
def Obligations.BitTestSetsZ : Prop :=
  ∀ (s : State) (b : BitVec 3),
    let tests (x : Byte) (k : Word) (t : State) : Prop :=
      FrameF s t k ∧
        SixFlags s t s.reg.f.s (decide (x.toNat / 2 ^ b.toNat % 2 = 0)) true s.reg.f.pv false s.reg.f.c
    (∀ r, Runs (.bitR b r) s (tests (getR r s) 2)) ∧
      TwoMemoryForms (.bitM b) (.bitX b) 2 4 s (fun la => tests (readMem s la))

/-- R615, R616: SET and RES of a register or a memory byte: one bit takes its value, every other bit and every
flag is unchanged. That the byte is written even where the bit has its value already is the inference of R616.
-/
def Obligations.SetAndResetBits : Prop :=
  ∀ (s : State) (b : BitVec 3),
    let becomes (v : Bool) (x res : Byte) : Prop :=
      ∀ j, j < 8 → res.getLsbD j = if j = b.toNat then v else x.getLsbD j
    let onReg (v : Bool) (r : R8) (t : State) : Prop :=
      FrameRegs s t 2 ∧ OnlyBytes [r] s t ∧ becomes v (getR r s) (getR r t)
    let onMem (v : Bool) (la n : Word) (t : State) : Prop :=
      ∃ res, becomes v (readMem s la) res ∧ Stores .data s t [(la, res)] ∧ StoreFrame t { s with pc := s.pc + n }
    (∀ r, Runs (.setR b r) s (onReg true r)) ∧ TwoMemoryForms (.setM b) (.setX b) 2 4 s (onMem true) ∧
      (∀ r, Runs (.resR b r) s (onReg false r)) ∧ TwoMemoryForms (.resM b) (.resX b) 2 4 s (onMem false)

/-! ## Jumps, calls, returns -/

/-- R700 to R706: the jumps. A jump not taken has no effect but PC past its bytes; DJNZ also writes B. JP mn and
JP (HL), (IX), (IY) are the spec's supply for lost entries (log 25). -/
def Obligations.JumpsSetPc : Prop :=
  ∀ s : State,
    let goes (w : Word) (t : State) : Prop := Frame s t { s with pc := w }
    (∀ mn, Runs (.jpMn mn) s (goes mn)) ∧
      (∀ cc mn, Runs (.jpCcMn cc mn) s fun t =>
        (holds cc s.reg.f → goes mn t) ∧ (¬ holds cc s.reg.f → goes (s.pc + 3) t)) ∧
      Runs .jpHl s (goes (getPair .hl s)) ∧ (∀ y, Runs (.jpXy y) s (goes (getIdx y s))) ∧
      (∀ e, Runs (.jrE e) s (goes (s.pc + 2 + e.signExtend 16))) ∧
      (∀ cc e, cc.inJr = true → Runs (.jrCcE cc e) s fun t =>
        (holds cc s.reg.f → goes (s.pc + 2 + e.signExtend 16) t) ∧ (¬ holds cc s.reg.f → goes (s.pc + 2) t)) ∧
      ∀ e, Runs (.djnz e) s fun t =>
        Frame s t
          { s with
            reg := { s.reg with b := s.reg.b - 1 }
            pc := if s.reg.b = 1 then s.pc + 2 else s.pc + 2 + e.signExtend 16 }

/-- R707, R708, R713, R909: CALL, CALL cc and RST push the address of the next instruction and go; a call not
taken touches no stack. That the call completes where a byte of its push is inhibited, with the fatal latch set
and the reset a later step, is the model's choice (log 12). -/
def Obligations.CallsPushAndGo : Prop :=
  ∀ s : State,
    let calls (ret target : Word) (t : State) : Prop :=
      Pushed s t ret ∧ StoreFrame t { s with sp := s.sp - 2, pc := target }
    (∀ mn, Runs (.callMn mn) s (calls (s.pc + 3) mn)) ∧
      (∀ cc mn, Runs (.callCcMn cc mn) s fun t =>
        (holds cc s.reg.f → calls (s.pc + 3) mn t) ∧
          (¬ holds cc s.reg.f → Frame s t { s with pc := s.pc + 3 })) ∧
      ∀ v : BitVec 3, Runs (.rst v) s (calls (s.pc + 1) (BitVec.ofNat 16 (8 * v.toNat)))

/-- R709 to R712, R933: RET, RET cc, RETI and RETN. RETI pulses `reti_tran` and, in the MPU, clears the highest-
priority IUS bit that is set; RETN restores IFF1 from IFF2. The direction of RETN's copy is the resolution C15.
-/
def Obligations.ReturnsPopPc : Prop :=
  ∀ s : State,
    let back : State := { s with sp := s.sp + 2, pc := wordAt s s.sp }
    Runs .ret s (fun t => Frame s t back) ∧
      (∀ cc, Runs (.retCc cc) s fun t =>
        (holds cc s.reg.f → Frame s t back) ∧ (¬ holds cc s.reg.f → Frame s t { s with pc := s.pc + 1 })) ∧
      Runs .retn s (fun t => Frame s t { back with iff1 := s.iff2 }) ∧
      Runs .reti s fun t =>
        Frame s t { back with ius := t.ius, busLog := .retiTran :: s.busLog } ∧
          (s.cfg.version = .cpu → t.ius = s.ius) ∧ (s.ius = 0 → t.ius = 0) ∧
          (s.cfg.version = .mpu → ∀ k, k < 16 → s.ius.getLsbD k = true →
            (∀ j, j < 16 → outranks s j k → s.ius.getLsbD j = false) →
            ∀ j, t.ius.getLsbD j = if j = k then false else s.ius.getLsbD j)

/-! ## Input and output -/

/-- R760 to R762, R778: the single inputs. Each makes one read transaction at the port of R201. -/
def Obligations.InputsReadPort : Prop :=
  ∀ s : State,
    let frame (k : Word) (t : State) : Prop :=
      Frame s t
        { s with reg := t.reg, pc := s.pc + k, ioIn := t.ioIn, busLog := t.busLog, free := t.free }
    let loads (r : R8) (port k : Word) (t : State) : Prop :=
      frame k t ∧ OnlyBytes [r] s t ∧ Input s t port (getR r t) ∧
        ResultFlags s t (getR r t) false false s.reg.f.c
    (∀ n, Runs (.inAN n) s fun t =>
      frame 2 t ∧ OnlyBytes [.a] s t ∧ Input s t (s.reg.a ++ n) t.reg.a ∧ t.reg.f = s.reg.f) ∧
      (∀ r, Runs (.inRC r) s (loads r (getPair .bc s) 2)) ∧
      (∀ r n, Runs (.in0RN r n) s (loads r (BitVec.ofNat 16 n.toNat) 3)) ∧
      ∀ n, Runs (.tstioN n) s fun t =>
        frame 3 t ∧ OnlyBytes [] s t ∧
          ∃ v, Input s t (BitVec.ofNat 16 s.reg.c.toNat) v ∧ ResultFlags s t (v &&& n) true false false

/-- R763 to R765: the single outputs. Each makes one write transaction at the port of R201 and changes nothing.
OUT (C),r is the spec's supply for a lost entry (log 25). -/
def Obligations.OutputsWritePort : Prop :=
  ∀ s : State,
    let writes (port : Word) (v : Byte) (k : Word) (t : State) : Prop :=
      Frame s t { s with pc := s.pc + k, busLog := .ioWrite port v :: s.busLog }
    (∀ n, Runs (.outNA n) s (writes (s.reg.a ++ n) s.reg.a 2)) ∧
      (∀ r, Runs (.outCR r) s (writes (getPair .bc s) (getR r s) 2)) ∧
      ∀ n r, Runs (.out0NR n r) s (writes (BitVec.ofNat 16 n.toNat) (getR r s) 3)

/-- R766 to R769: block input, one iteration each. The port is BC before B is decremented. That a repeating
instruction keeps its opcode is the inference of R458 (log 14). -/
def Obligations.BlockInputIterates : Prop :=
  ∀ s : State,
    let iterates (d : Word) (t : State) : Prop :=
      (∃ v, Input s t (getPair .bc s) v ∧ Stores .data s t [(getPair .hl s, v)]) ∧
        StoreFrame t
          { s with
            reg := t.reg, pc := t.pc, repeating := t.repeating, free := t.free
            ioIn := t.ioIn, busLog := t.busLog } ∧
        (∀ q, q ∉ [R8.b, .h, .l] → getR q t = getR q s) ∧ t.reg.b = s.reg.b - 1 ∧
        getPair .hl t = getPair .hl s + d ∧
        SixFlags s t s.reg.f.s (decide (t.reg.b = 0)) s.reg.f.h s.reg.f.pv true s.reg.f.c
    Runs .ini s (fun t => iterates 1 t ∧ Claims.Once s t) ∧
      Runs .ind s (fun t => iterates (-1) t ∧ Claims.Once s t) ∧
      Runs .inir s (fun t => iterates 1 t ∧ Claims.Repeats .inir (t.reg.b ≠ 0) s t) ∧
      Runs .indr s (fun t => iterates (-1) t ∧ Claims.Repeats .indr (t.reg.b ≠ 0) s t)

/-- R770 to R773, R779: block output, one iteration each; the port's upper byte is B before or after its
decrement as `BLOCK_OUT_B` says, and the flags are those of R779 (b). Both are the spec's choices among printed
readings (C27, D11, log 26). That a repeating instruction keeps its opcode is the inference of R458 (log 14). -/
def Obligations.BlockOutputIterates : Prop :=
  ∀ s : State,
    let port : Word := (if s.cfg.blockOutB = .before then s.reg.b else s.reg.b - 1) ++ s.reg.c
    let iterates (d : Word) (t : State) : Prop :=
      Frame s t
          { s with
            reg := t.reg, pc := t.pc, repeating := t.repeating, free := t.free
            busLog := .ioWrite port (readMem s (getPair .hl s)) :: s.busLog } ∧
        (∀ q, q ∉ [R8.b, .h, .l] → getR q t = getR q s) ∧ t.reg.b = s.reg.b - 1 ∧
        getPair .hl t = getPair .hl s + d ∧
        SixFlags s t s.reg.f.s (decide (t.reg.b = 0)) s.reg.f.h s.reg.f.pv true s.reg.f.c
    Runs .outi s (fun t => iterates 1 t ∧ Claims.Once s t) ∧
      Runs .outd s (fun t => iterates (-1) t ∧ Claims.Once s t) ∧
      Runs .otir s (fun t => iterates 1 t ∧ Claims.Repeats .otir (t.reg.b ≠ 0) s t) ∧
      Runs .otdr s (fun t => iterates (-1) t ∧ Claims.Repeats .otdr (t.reg.b ≠ 0) s t)

/-- R774 to R777, R780: OTIM, OTDM and their repeating forms, one iteration each; the port's upper byte is 0 or
B as `OTXM_PORT_HIGH` says. H is the borrow of the decrement of B, P/V its parity, N bit 7 of the byte. The port
is the open point D12. That a repeating instruction keeps its opcode is the inference of R458 (log 14). -/
def Obligations.OtimFamilyIterates : Prop :=
  ∀ s : State,
    let v := readMem s (getPair .hl s)
    let port : Word := (if s.cfg.otxmHigh = .zero then 0 else s.reg.b) ++ s.reg.c
    let iterates (d : Word) (t : State) : Prop :=
      Frame s t
          { s with
            reg := t.reg, pc := t.pc, repeating := t.repeating, free := t.free
            busLog := .ioWrite port v :: s.busLog } ∧
        (∀ q, q ∉ [R8.b, .c, .h, .l] → getR q t = getR q s) ∧ t.reg.b = s.reg.b - 1 ∧
        t.reg.c = s.reg.c + d.setWidth 8 ∧ getPair .hl t = getPair .hl s + d ∧
        ResultFlags s t t.reg.b (decide (s.reg.b.toNat % 16 = 0)) (decide (128 ≤ v.toNat)) s.reg.f.c
    Runs .otim s (fun t => iterates 1 t ∧ Claims.Once s t) ∧
      Runs .otdm s (fun t => iterates (-1) t ∧ Claims.Once s t) ∧
      Runs .otimr s (fun t => iterates 1 t ∧ Claims.Repeats .otimr (t.reg.b ≠ 0) s t) ∧
      Runs .otdmr s (fun t => iterates (-1) t ∧ Claims.Repeats .otdmr (t.reg.b ≠ 0) s t)

/-! ## CPU control -/

/-- R830 to R835: NOP, HALT, SLP, DI, EI and IM. HALT remembers IFF1 (R921). After EI nothing is delayed unless
`EI_SHADOW` says so (R1011). That delay is the open point D26. -/
def Obligations.CpuControlEffects : Prop :=
  ∀ s : State,
    Runs .nop s (fun t => Frame s t { s with pc := s.pc + 1 }) ∧
      Runs .halt s (fun t => Frame s t { s with pc := s.pc + 1, run := .halted, haltIntEn := s.iff1 }) ∧
      Runs .slp s (fun t => Frame s t { s with pc := s.pc + 2, run := .sleeping, intSeen := t.intSeen }) ∧
      Runs .di s (fun t => Frame s t { s with pc := s.pc + 1, iff1 := false, iff2 := false }) ∧
      Runs .ei s (fun t =>
        Frame s t
          { s with
            pc := s.pc + 1, iff1 := true, iff2 := true
            eiShadow := decide (s.cfg.eiShadow = .oneInstruction) }) ∧
      Runs .im0 s (fun t => Frame s t { s with pc := s.pc + 2, im := .im0 }) ∧
      Runs .im1 s (fun t => Frame s t { s with pc := s.pc + 2, im := .im1 }) ∧
      Runs .im2 s (fun t => Frame s t { s with pc := s.pc + 2, im := .im2 })

/-! ## The MPU instructions -/

/-- R209, R210: in the MPU the four top bits of a logical address choose the register that gives the physical
address its bits 27:12; in the CPU version the address is its own; after reset the MMU translates nothing. -/
def Obligations.AddressTranslation : Prop :=
  (∀ (s : State) (la : Word) (page : Fin 16), s.cfg.version = .mpu → la.toNat / 4096 = page.val →
      (translate s la).toNat = 4096 * (s.mmu.get page).toNat + la.toNat % 4096) ∧
    (∀ (s : State) (la : Word), s.cfg.version = .cpu → (translate s la).toNat = la.toNat) ∧
    (∀ (s : State) (la : Word), (translate (userReset s) la).toNat = la.toNat) ∧
    ∀ (c : Config) (la : Word), (translate (State.resetOf c) la).toNat = la.toNat

/-- R860 to R863, R869: the MMU loads and the exchange, in the MPU. The sixteen reads go through the mapping
before the exchange; HL advances by 16; no flag changes; the next instruction is in the shadow. -/
def Obligations.MmuLoadsAndSwap : Prop :=
  ∀ s : State, s.cfg.version = .mpu →
    let table (k : Fin 16) : Byte := readMem s (getPair .hl s + BitVec.ofNat 16 k.val)
    let frame (t : State) : Prop :=
      Frame s t
        { s with
          reg := { s.reg with h := t.reg.h, l := t.reg.l }
          pc := s.pc + 2, mmu := t.mmu, mmuBuf := t.mmuBuf, shadow := true }
    let passed (t : State) : Prop := getPair .hl t = getPair .hl s + 16
    Runs .ldmMmu s (fun t =>
      frame t ∧ passed t ∧ t.mmu = s.mmu ∧ ∀ k, t.mmuBuf.get k = high (s.mmuBuf.get k) ++ table k) ∧
    Runs .ldmMmuh s (fun t =>
      frame t ∧ passed t ∧ t.mmu = s.mmu ∧ ∀ k, t.mmuBuf.get k = table k ++ low (s.mmuBuf.get k)) ∧
    Runs .ldmsMmu s (fun t =>
      frame t ∧ passed t ∧ t.mmuBuf = s.mmu ∧ ∀ k, t.mmu.get k = high (s.mmuBuf.get k) ++ table k) ∧
    Runs .swap s (fun t =>
      frame t ∧ getPair .hl t = getPair .hl s ∧ t.mmu = s.mmuBuf ∧ t.mmuBuf = s.mmu)

/-- The addresses of a table of sixteen bytes at HL, in order. -/
def Sys2Proof.Claims.tableAt (s : State) (byte : Fin 16 → Byte) : List (Word × Byte) :=
  (List.finRange 16).map fun k => (getPair .hl s + BitVec.ofNat 16 k.val, byte k)

/-- R864, R865, R869: the stores of the MMU buffer, in the MPU: page 0's byte at HL, each write checked by
itself, HL past the table. It is the buffer that is stored, not the active context. That an inhibited write
traps as any other does is the inference of R869; that the Trap Address holds the last of several inhibited
addresses is the order of R204 and the choice of U8 in 93_implementation_defined.md (log 35). -/
def Obligations.MmuBufferStores : Prop :=
  ∀ s : State, s.cfg.version = .mpu →
    let stores (byte : Fin 16 → Byte) (t : State) : Prop :=
      Stores .data s t (Claims.tableAt s byte) ∧ getPair .hl t = getPair .hl s + 16 ∧
        StoreFrame t
          { s with reg := { s.reg with h := t.reg.h, l := t.reg.l }, pc := s.pc + 2, shadow := true }
    Runs .ldmFromMmu s (stores fun k => low (s.mmuBuf.get k)) ∧
      Runs .ldmFromMmuh s (stores fun k => high (s.mmuBuf.get k))

/-- The sixteen bytes of R950, offset 0 first. Offset E is the generator's status byte (R959, log 17). -/
def Sys2Proof.Claims.blockByte (s : State) (k : Fin 16) : Byte :=
  let y := s.sys
  let bits (b7 b6 b5 b4 b3 b2 b1 b0 : Bool) : Byte :=
    BitVec.ofNat 8 (128 * b7.toNat + 64 * b6.toNat + 32 * b5.toNat + 16 * b4.toNat + 8 * b3.toNat + 4 * b2.toNat +
      2 * b1.toNat + b0.toNat)
  match k.val with
  | 0 =>
    bits y.fatalSeen y.faultSeen y.wdtSeen y.porSeen (s.pins.resetBus.getLsbD 1) y.bus1Seen
      (s.pins.resetBus.getLsbD 0) y.bus0Seen
  | 1 => bits false false false false y.wpTrap y.execTrap y.ill3Trap y.ill2Trap
  | 2 => low y.trapLog
  | 3 => high y.trapLog
  | 4 => low y.trapPhys
  | 5 => high y.trapPhys
  | 6 => low y.faultLog
  | 7 => high y.faultLog
  | 8 => low y.faultPhys
  | 9 => high y.faultPhys
  | 0xC => y.dreqStat
  | 0xD => y.waitStat
  | 0xE => rtiStatus s.pins s.rti
  | 0xF => s.pins.extStatBus
  | _ => 0

/-- R866, R950 to R954: LDM (HL),SYS in the MPU stores the block as it was at the start, then clears the sticky
bits and the time-out bytes, keeps the Fault Address, and pulses `ext_stat_rd`. Where one of its own writes is
inhibited the trap is pending, the Trap Address is that of the last such write, and Trap Status bit 3 is left
open. The order of the snapshot and the last-address choice are U7 and U8 (log 35), and the open bit is log 21.
-/
def Obligations.StatusBlockReadAndCleared : Prop :=
  ∀ s : State, s.cfg.version = .mpu →
    Runs .ldmFromSys s fun t =>
      let ws := Claims.tableAt s (Claims.blockByte s)
      let own := (ws.filter fun w => writeInhibited s w.1).getLast?
      Bytes s t ws ∧ getPair .hl t = getPair .hl s + 16 ∧
        t = { s with
          reg := { s.reg with h := t.reg.h, l := t.reg.l }
          pc := s.pc + 2, shadow := true, free := t.free, mem := t.mem
          busLog := .extStatRd :: s.busLog
          wpPending := s.wpPending || own.isSome
          sys :=
            { s.sys with
              fatalSeen := false, faultSeen := false, wdtSeen := false, porSeen := false
              bus1Seen := false, bus0Seen := false
              wpTrap := t.sys.wpTrap, execTrap := false, ill3Trap := false, ill2Trap := false
              dreqStat := 0, waitStat := 0
              trapLog := (own.map fun w => w.1).getD s.sys.trapLog
              trapPhys := (own.map fun w => (translate s w.1).extractLsb' 12 16).getD s.sys.trapPhys } } ∧
        (own = none → t.sys.wpTrap = false)

/-- R867, R868, R947: WDARM and WDRES in the MPU. WDARM starts a stopped Arm Timer of 256 clocks and does
nothing while it runs; WDRES restarts the watch-dog, with the limit sampled, while the Arm Timer runs and does
nothing else; which of them enables the watch-dog is `WDT_ENABLE_EVENT`. The enabling event, and that WDRES
leaves the Arm Timer running, are decision D16. -/
def Obligations.WatchdogArmAndReset : Prop :=
  ∀ s : State, s.cfg.version = .mpu →
    let restarted (e : Bool) : Wdt := ⟨e, 0, s.pins.wdtLim, s.wdt.arm⟩
    Runs .wdarm s (fun t =>
      Frame s t { s with pc := s.pc + 2, wdt := t.wdt } ∧
        (s.wdt.arm ≠ 0 → t.wdt = s.wdt) ∧
        (s.wdt.arm = 0 → (s.cfg.wdtEnable = .firstWdres ∨ s.wdt.enabled = true) →
          t.wdt = { s.wdt with arm := 256 }) ∧
        (s.wdt.arm = 0 → s.cfg.wdtEnable = .firstWdarm → s.wdt.enabled = false →
          t.wdt = { restarted true with arm := 256 })) ∧
    Runs .wdres s (fun t =>
      Frame s t { s with pc := s.pc + 2, wdt := t.wdt } ∧
        (s.wdt.arm = 0 → t.wdt = s.wdt) ∧
        (s.wdt.arm ≠ 0 → t.wdt = restarted (s.wdt.enabled || decide (s.cfg.wdtEnable = .firstWdres))))

/-- R870: the nine MPU opcodes in the CPU version. Under `illegal` each takes the trap of an undefined second
byte. Under `absent_effect` PC moves on and nothing else changes, except that the three storing forms write
sixteen bytes at HL, of which nothing is said. The manual does not say: decision D13, and what `absent_effect`
stores is log 22. -/
def Obligations.MpuOpcodesOnCpu : Prop :=
  ∀ (s : State) (i : Instr), s.cfg.version = .cpu →
    i ∈ [Instr.ldmMmu, .ldmMmuh, .ldmsMmu, .swap, .ldmFromMmu, .ldmFromMmuh, .ldmFromSys, .wdarm, .wdres] →
    (s.cfg.mpuOnCpu = .illegal → Runs i s (Illegal2 s)) ∧
      (s.cfg.mpuOnCpu = .absentEffect → Runs i s fun t =>
        (i ∈ [Instr.ldmFromMmu, .ldmFromMmuh, .ldmFromSys] → ∃ byte,
          Bytes s t (Claims.tableAt s byte) ∧
            t = { s with pc := s.pc + 2, mem := t.mem, free := t.free }) ∧
        (i ∉ [Instr.ldmFromMmu, .ldmFromMmuh, .ldmFromSys] → Frame s t { s with pc := s.pc + 2 }))

/-! ## Exceptions, interrupts, Halt and Sleep, DMA -/

/-- R903, R904, R316: a step at an illegal opcode takes the trap; no part of the instruction executes. The
stacked address (D14) and the interrupt flip-flops (D7) are the spec's open points. That the entry completes
where a byte of its own push is inhibited, with the fatal latch set and the reset a later step, is the model's
choice (log 12). -/
def Obligations.IllegalOpcodeTraps : Prop :=
  ∀ s : State, Safety.Quiet s →
    let d := decode (readMem s s.pc) (readMem s (s.pc + 1)) (readMem s (s.pc + 2)) (readMem s (s.pc + 3))
    (d = .illegal2 → Steps s (Illegal2 s)) ∧ (d = .illegal3 → Steps s (Illegal3 s))

/-- R905, R909: a step whose first byte is execute-inhibited. Outside page 0 an RST 0 is executed in its place;
in page 0 the fatal latch is set. Both record the trap. That the fatal reset is the next step is the model's
choice (log 12). -/
def Obligations.ExecuteInhibitTraps : Prop :=
  ∀ s : State, Safety.AtFetch s → execInhibited s s.pc = true →
    (4096 ≤ s.pc.toNat → Steps s fun t =>
      Entered { s with sys := { trapAt s s.pc with execTrap := true } } t (s.pc + 1) 0) ∧
    (s.pc.toNat < 4096 → Steps s fun t =>
      Frame s t
        { s with sys := { trapAt s s.pc with execTrap := true, fatalSeen := true }, fatal := true })

/-- R907, R901: a pending write-protect trap is taken before anything else at the next fetch: an RST 0 in place
of the instruction at PC, whatever is requested and in the shadow too (R869). The place of the trap in the order
of events is decision D8, the repeating case D20, and that the RST 0 ends the shadow is log 36. That the entry
completes where a byte of its own push is inhibited is log 12. -/
def Obligations.WriteProtectTrapTaken : Prop :=
  ∀ s : State, s.sched = [] → s.fatal = false → s.run = .running → s.wpPending = true →
    (s.repeating = none ∨ s.cfg.wrprotRepeat = .afterIteration) → Steps s fun t =>
      Entered
        { s with
          wpPending := false, shadow := false, eiShadow := false
          nmiLatch := s.nmiLatch || s.pins.nmiReq } t (s.pc + 1) 0

/-- R909, R1002, R123: with the fatal latch set a step performs the user reset. The two stack bytes below SP may
each have been written or not, but never where `wr_inh` is active (U9); no other byte of memory changes. That
the reset is a step of its own is the model's choice (log 12). -/
def Obligations.FatalErrorResets : Prop :=
  ∀ s : State, s.sched = [] → s.fatal = true → Steps s fun t =>
    t = { afterReset s with mem := t.mem, free := t.free, busLog := .resetOut :: s.busLog } ∧
      ∀ pa, t.mem.get pa = s.mem.get pa ∨
        (writeInhibited s (s.sp - 1) = false ∧ pa = (translate s (s.sp - 1)).toNat ∧
          t.mem.get pa = high (s.pc + 1)) ∨
        (writeInhibited s (s.sp - 2) = false ∧ pa = (translate s (s.sp - 2)).toNat ∧
          t.mem.get pa = low (s.pc + 1))

/-- R912, R918: NMI. With no trap, shadow or DMA request before it, a latched or present request is acknowledged
in every run state, whatever IFF1 is: IFF1 is cleared, IFF2 kept, PC pushed, and control goes to `NMI_ADDR`. The
place of NMI in the order of events is decision D8, the flip-flops D7 (log 27). That the entry completes where a
byte of its push is inhibited, with the fatal latch set and the reset a later step, is the model's choice (log
12). -/
def Obligations.NmiAcknowledged : Prop :=
  ∀ s : State, s.sched = [] → s.fatal = false → s.wpPending = false → s.shadow = false →
    dmaRequest s = false → s.dma.ack = false → s.dma.cut = false →
    (s.nmiLatch = true ∨ s.pins.nmiReq = true) → Steps s fun t =>
      Entered
        { s with
          nmiLatch := false, iff1 := false, run := .running, eiShadow := false
          busLog := .nmiAck :: s.busLog } t s.pc s.pins.nmiAddr

/-- What a maskable acknowledge of vector byte `v` takes (R913, R915, R916, R917): the routine is at the restart
address of v[5:3], at 0x0038, or at the word of the table entry I:v. -/
def Sys2Proof.Claims.IntEntered (s u t : State) (v : Byte) : Prop :=
  Entered { u with iff1 := false, iff2 := false, run := .running, eiShadow := false } t s.pc
    (match s.im with
      | .im0 => BitVec.ofNat 16 (8 * (v.toNat / 8 % 8))
      | .im1 => 0x0038
      | .im2 => wordAt s (s.i ++ v))

/-- A maskable request can be taken at this boundary: nothing comes before it, and it is enabled (R910, R921,
R922). -/
def Sys2Proof.Claims.IntOpen (s : State) : Prop :=
  s.sched = [] ∧ s.fatal = false ∧ s.wpPending = false ∧ s.shadow = false ∧ s.eiShadow = false ∧
    s.nmiLatch = false ∧ s.pins.nmiReq = false ∧ dmaRequest s = false ∧ s.dma.ack = false ∧
    s.dma.cut = false ∧ (if s.run = .halted then s.haltIntEn = true else s.iff1 = true)

/-- R913 to R918, R932 to R934: the maskable acknowledge in the three modes. In the CPU version the vector byte
is `ivec_data_in`. In the MPU the winning input's latch is cleared, its IUS bit set, and its vector is that of
R934; and `int_req` is active exactly when some input wins. The flip-flops are decision D7 (log 27), the order
of the inputs D15, the code of R934 the input's index (log 31), an odd vector byte in mode 2 decision D17. That
the entry completes where a byte of its push is inhibited, with the fatal latch set and the reset a later step,
is the model's choice (log 12). -/
def Obligations.MaskableInterruptAcknowledged : Prop :=
  ∀ s : State,
    (s.cfg.version = .mpu → (intRequest s = true ↔ ∃ k, Winner s k)) ∧
    (Claims.IntOpen s → s.cfg.version = .cpu → s.pins.intReq = true → Steps s fun t =>
      Claims.IntEntered s { s with busLog := .intAck s.pins.ivecDataIn none :: s.busLog } t
        s.pins.ivecDataIn) ∧
    (Claims.IntOpen s → s.cfg.version = .mpu → ∀ k, Winner s k →
      let v : Byte :=
        if s.im = .im2 then BitVec.ofNat 8 (32 * s.pins.ivecOffset.toNat + 2 * k)
        else BitVec.ofNat 8 (0xC7 + 8 * s.pins.ivecOffset.toNat)
      Steps s fun t =>
        (∀ j, t.irq.getLsbD j = (s.irq.getLsbD j && !decide (j = k))) ∧
          (∀ j, t.ius.getLsbD j = (s.ius.getLsbD j || decide (j = k))) ∧
          Claims.IntEntered s
            { s with irq := t.irq, ius := t.ius, busLog := .intAck v (some k) :: s.busLog } t v)

/-- R869, R910: after a block instruction of the MPU the next instruction is executed whatever is requested:
interrupt and DMA requests are not sampled and stay pending. The prefetch is the model's reading (log 13, log
34). -/
def Obligations.ShadowGuaranteesNextInstruction : Prop :=
  ∀ (s : State) (i : Instr), s.sched = [] → s.fatal = false → s.run = .running → s.wpPending = false →
    s.shadow = true → s.repeating = none → s.prefetched = none → execInhibited s s.pc = false →
    decode (readMem s s.pc) (readMem s (s.pc + 1)) (readMem s (s.pc + 2)) (readMem s (s.pc + 3)) = .instr i →
    step s =
      exec i
        { s with
          shadow := false, eiShadow := false, nmiLatch := s.nmiLatch || s.pins.nmiReq
          prefetched := prefetchedAfter i s }

/-- R921, R922: a cycle of Halt or Sleep in which nothing is acknowledged. Halted, the machine stays as it is,
and a maskable request is ignored where HALT found interrupts disabled. Sleeping with interrupts disabled, a
maskable request resumes execution with nothing pushed (the level of `SLEEP_EXIT_DISABLED`). The level is the
open point D21; that a cycle is one step is the model's choice (log 9). -/
def Obligations.HaltAndSleepCycles : Prop :=
  ∀ s : State, s.sched = [] → s.fatal = false → s.nmiLatch = false → s.pins.nmiReq = false →
    dmaRequest s = false → s.dma.ack = false → s.dma.cut = false →
    (s.run = .halted → (intRequest s = false ∨ s.haltIntEn = false) → Steps s fun t => Frame s t s) ∧
    (s.run = .sleeping → intRequest s = false → Steps s fun t => Frame s t { s with intSeen := false }) ∧
    (s.run = .sleeping → s.iff1 = false → s.cfg.sleepExit = .level → intRequest s = true →
      Steps s fun t => Frame s t { s with run := .running })

/-- R923, R910, R942: a DMA request at a boundary, in every run state, takes the bus: the step changes nothing
but the grant, the DUS bit of the highest-priority requester (MPU), the NMI latch, and the prefetch buffer (D6).
While it is granted nothing else happens. The place of DMA in the order of events is decision D8, the order of
the requests D15, the dropped buffer D6 (log 16). -/
def Obligations.DmaRequestTakesBus : Prop :=
  ∀ s : State, s.sched = [] → s.fatal = false → s.wpPending = false → s.shadow = false →
    dmaRequest s = true → Steps s fun t =>
      Frame s t
          { s with
            dma := { s.dma with ack := true, dus := t.dma.dus }
            prefetched := none
            nmiLatch := s.nmiLatch || s.pins.nmiReq } ∧
        (s.cfg.version = .mpu → ∀ k, k < 8 → s.pins.dmaReqBus.getLsbD k = true →
          (∀ j, j < 8 → outranks s j k → s.pins.dmaReqBus.getLsbD j = false) →
          ∀ j, t.dma.dus.getLsbD j = decide (j = k))

/-! ## Resets, the platform and the invariant -/

/-- R946, R948, R1002: clocks that carry an enabled watch-dog past its period reset the machine with Reset
Status bit 5 set; fewer clocks only count. (With the other timers of the MPU at rest.) Clocks reach the model as
inputs (log 9). -/
def Obligations.WatchdogTimesOut : Prop :=
  ∀ (s : State) (n : Nat), s.cfg.version = .mpu → s.wdt.enabled = true → s.dma.ack = false →
    s.dma.idle = 0 → s.sched = [(0, .between (.clocks n))] →
    let period := (s.wdt.limit.toNat + 1) * 2 ^ 20
    (period ≤ s.wdt.count + n → Steps s fun t =>
      ∃ r l f, t = { afterReset { s with sched := [] } with
        sys := { s.sys with wdtSeen := true }, rti := r, free := f, busLog := l }) ∧
    (s.wdt.count + n < period → Steps s fun t =>
      ∃ r l f, t = { s with
        sched := [], rti := r, free := f, busLog := l
        wdt := { s.wdt with count := s.wdt.count + n, arm := s.wdt.arm - n } })

/-- R123, R1000, R1001, R1002, R1004, R962: the resets. The operation the model calls gives the state of R123; a
transition on `reset_bus` in the MPU and the `resetb` pin in the CPU version perform it. Inside an action of the CPU
version `resetb` cuts the action short after some of its transactions, in their order (R214): the memory writes are
done up to some one of them, a transaction that leads the action has happened if any write has, and of the registers a
reset keeps only those the instruction updates are left open. `clearb` between two actions of the CPU version writes
nothing but those registers. An upset resets the MPU, with the status bit and the Fault Address. The state right after
reset has, for all parameters, the values the spec gives, and a further reset changes nothing in it. The values R123
does not call stated are decisions D1 and D3 (log 3, log 4); what an action cut short leaves is log 38; that `clearb`
keeps memory is log 20, that an upset keeps memory and the real-time-interrupt generator log 19. -/
def Obligations.UserResetValues : Prop :=
  (∀ s : State, userReset s = afterReset s) ∧
    (∀ s : State, s.cfg.version = .cpu → s.sched = [(0, .between .resetb)] →
      step s = .next (afterReset { s with sched := [] })) ∧
    (∀ (s : State) (p : Pins), s.cfg.version = .mpu → p.resetBus ≠ s.pins.resetBus →
      s.sched = [(0, .between (.pins p))] → p.refClock = s.pins.refClock →
      Steps s fun t =>
        t = { afterReset { s with sched := [], pins := p } with
          busLog := .resetOut :: s.busLog
          sys :=
            { s.sys with
              bus1Seen := s.sys.bus1Seen || (p.resetBus.getLsbD 1 != s.pins.resetBus.getLsbD 1)
              bus0Seen := s.sys.bus0Seen || (p.resetBus.getLsbD 0 != s.pins.resetBus.getLsbD 0) } }) ∧
    (∀ (s u : State) (n : Nat), s.cfg.version = .cpu → s.late = [] →
      s.sched = [(0, .during [] (some (n, .resetb)))] → machineStep { s with sched := [] } = .next u →
      Steps s fun t =>
        t = { afterReset { s with sched := [] } with
          reg := t.reg, alt := t.alt, ix := t.ix, iy := t.iy, mem := t.mem, sys := t.sys
          busLog := t.busLog, ioIn := t.ioIn, free := t.free } ∧
        (∃ k, (∀ pa, t.mem.get pa =
            if pa ∈ physical s (((plan { s with sched := [] }).stores s).take k) then u.mem.get pa
            else s.mem.get pa) ∧
          (∃ es, es.Sublist (newEvents s u) ∧ t.busLog = es ++ s.busLog) ∧
          (0 < k → ∀ e ∈ newEvents s u, e.leads = true → e ∈ t.busLog) ∧
          k ≤ n ∧ n ≤ k + 1) ∧
        ∀ i, Safety.Quiet { s with sched := [] } →
          decode (readMem s s.pc) (readMem s (s.pc + 1)) (readMem s (s.pc + 2)) (readMem s (s.pc + 3)) = .instr i →
          KeptOutside (updates false i) s t) ∧
    (∀ s : State, s.cfg.version = .cpu → s.sched = [(0, .between .clearb)] → Steps s fun t =>
      t = { s with sched := [], reg := t.reg, alt := t.alt, ix := t.ix, iy := t.iy, free := t.free }) ∧
    (∀ (s : State) (la : Word), s.cfg.version = .mpu → s.sched = [(0, .between (.faultDetect la))] →
      Steps s fun t =>
        t = { afterReset { s with sched := [] } with
          reg := t.reg, alt := t.alt, ix := t.ix, iy := t.iy, free := t.free
          busLog := .resetOut :: .faultDetect :: s.busLog
          sys :=
            { s.sys with
              faultSeen := true, faultLog := la, faultPhys := (translate s la).extractLsb' 12 16 } }) ∧
    (∀ c : Config, afterReset (State.resetOf c) = State.resetOf c ∧ (State.resetOf c).pc = 0 ∧
      (State.resetOf c).run = .running ∧ (State.resetOf c).sys.porSeen = true ∧
      (State.resetOf c).wdt.enabled = false) ∧
    State.reset = State.resetOf Config.initial

/-- Every step keeps the invariant, from every state that has it, and no step changes a parameter. The invariant
is the model's own (log 9, 13, 14, 16, 17, 31). -/
def Obligations.StepKeepsInvariant : Prop :=
  ∀ s t : State, Inv s → step s = .next t → Inv t ∧ t.cfg = s.cfg

/-- The state right after reset has the invariant, whatever the parameters. The invariant is the model's own. -/
def Obligations.InvariantAtReset : Prop := Inv State.reset ∧ ∀ c, Inv (State.resetOf c)

end
end

