-- ==== Sys2Proof/Laws/State.lean ====
section
/-! SUPPORT. One lemma per field per update of the state: what each named update leaves alone, and what it
writes. -/

namespace Sys2Proof.Machine

/-! ## setPc and advance -/

@[simp] theorem setPc_pc (w : Word) (s : State) : (s.setPc w).pc = w := rfl
@[simp] theorem advance_pc (k : Word) (s : State) : (advance k s).pc = s.pc + k := rfl
@[simp] theorem setPc_cfg (w : Word) (s : State) : (s.setPc w).cfg = s.cfg := rfl
@[simp] theorem setPc_reg (w : Word) (s : State) : (s.setPc w).reg = s.reg := rfl
@[simp] theorem setPc_alt (w : Word) (s : State) : (s.setPc w).alt = s.alt := rfl
@[simp] theorem setPc_ix (w : Word) (s : State) : (s.setPc w).ix = s.ix := rfl
@[simp] theorem setPc_iy (w : Word) (s : State) : (s.setPc w).iy = s.iy := rfl
@[simp] theorem setPc_sp (w : Word) (s : State) : (s.setPc w).sp = s.sp := rfl
@[simp] theorem setPc_i (w : Word) (s : State) : (s.setPc w).i = s.i := rfl
@[simp] theorem setPc_r (w : Word) (s : State) : (s.setPc w).r = s.r := rfl
@[simp] theorem setPc_iff1 (w : Word) (s : State) : (s.setPc w).iff1 = s.iff1 := rfl
@[simp] theorem setPc_iff2 (w : Word) (s : State) : (s.setPc w).iff2 = s.iff2 := rfl
@[simp] theorem setPc_im (w : Word) (s : State) : (s.setPc w).im = s.im := rfl
@[simp] theorem setPc_run (w : Word) (s : State) : (s.setPc w).run = s.run := rfl
@[simp] theorem setPc_haltIntEn (w : Word) (s : State) : (s.setPc w).haltIntEn = s.haltIntEn := rfl
@[simp] theorem setPc_nmiLatch (w : Word) (s : State) : (s.setPc w).nmiLatch = s.nmiLatch := rfl
@[simp] theorem setPc_prefetched (w : Word) (s : State) : (s.setPc w).prefetched = s.prefetched := rfl
@[simp] theorem setPc_repeating (w : Word) (s : State) : (s.setPc w).repeating = s.repeating := rfl
@[simp] theorem setPc_shadow (w : Word) (s : State) : (s.setPc w).shadow = s.shadow := rfl
@[simp] theorem setPc_eiShadow (w : Word) (s : State) : (s.setPc w).eiShadow = s.eiShadow := rfl
@[simp] theorem setPc_wpPending (w : Word) (s : State) : (s.setPc w).wpPending = s.wpPending := rfl
@[simp] theorem setPc_fatal (w : Word) (s : State) : (s.setPc w).fatal = s.fatal := rfl
@[simp] theorem setPc_intSeen (w : Word) (s : State) : (s.setPc w).intSeen = s.intSeen := rfl
@[simp] theorem setPc_mmu (w : Word) (s : State) : (s.setPc w).mmu = s.mmu := rfl
@[simp] theorem setPc_mmuBuf (w : Word) (s : State) : (s.setPc w).mmuBuf = s.mmuBuf := rfl
@[simp] theorem setPc_irq (w : Word) (s : State) : (s.setPc w).irq = s.irq := rfl
@[simp] theorem setPc_ius (w : Word) (s : State) : (s.setPc w).ius = s.ius := rfl
@[simp] theorem setPc_dma (w : Word) (s : State) : (s.setPc w).dma = s.dma := rfl
@[simp] theorem setPc_wdt (w : Word) (s : State) : (s.setPc w).wdt = s.wdt := rfl
@[simp] theorem setPc_sys (w : Word) (s : State) : (s.setPc w).sys = s.sys := rfl
@[simp] theorem setPc_rti (w : Word) (s : State) : (s.setPc w).rti = s.rti := rfl
@[simp] theorem setPc_pins (w : Word) (s : State) : (s.setPc w).pins = s.pins := rfl
@[simp] theorem setPc_mem (w : Word) (s : State) : (s.setPc w).mem = s.mem := rfl
@[simp] theorem setPc_ioIn (w : Word) (s : State) : (s.setPc w).ioIn = s.ioIn := rfl
@[simp] theorem setPc_busLog (w : Word) (s : State) : (s.setPc w).busLog = s.busLog := rfl
@[simp] theorem setPc_late (w : Word) (s : State) : (s.setPc w).late = s.late := rfl
@[simp] theorem setPc_sched (w : Word) (s : State) : (s.setPc w).sched = s.sched := rfl
@[simp] theorem setPc_free (w : Word) (s : State) : (s.setPc w).free = s.free := rfl
@[simp] theorem advance_cfg (k : Word) (s : State) : (advance k s).cfg = s.cfg := rfl
@[simp] theorem advance_reg (k : Word) (s : State) : (advance k s).reg = s.reg := rfl
@[simp] theorem advance_alt (k : Word) (s : State) : (advance k s).alt = s.alt := rfl
@[simp] theorem advance_ix (k : Word) (s : State) : (advance k s).ix = s.ix := rfl
@[simp] theorem advance_iy (k : Word) (s : State) : (advance k s).iy = s.iy := rfl
@[simp] theorem advance_sp (k : Word) (s : State) : (advance k s).sp = s.sp := rfl
@[simp] theorem advance_i (k : Word) (s : State) : (advance k s).i = s.i := rfl
@[simp] theorem advance_r (k : Word) (s : State) : (advance k s).r = s.r := rfl
@[simp] theorem advance_iff1 (k : Word) (s : State) : (advance k s).iff1 = s.iff1 := rfl
@[simp] theorem advance_iff2 (k : Word) (s : State) : (advance k s).iff2 = s.iff2 := rfl
@[simp] theorem advance_im (k : Word) (s : State) : (advance k s).im = s.im := rfl
@[simp] theorem advance_run (k : Word) (s : State) : (advance k s).run = s.run := rfl
@[simp] theorem advance_haltIntEn (k : Word) (s : State) : (advance k s).haltIntEn = s.haltIntEn := rfl
@[simp] theorem advance_nmiLatch (k : Word) (s : State) : (advance k s).nmiLatch = s.nmiLatch := rfl
@[simp] theorem advance_prefetched (k : Word) (s : State) : (advance k s).prefetched = s.prefetched := rfl
@[simp] theorem advance_repeating (k : Word) (s : State) : (advance k s).repeating = s.repeating := rfl
@[simp] theorem advance_shadow (k : Word) (s : State) : (advance k s).shadow = s.shadow := rfl
@[simp] theorem advance_eiShadow (k : Word) (s : State) : (advance k s).eiShadow = s.eiShadow := rfl
@[simp] theorem advance_wpPending (k : Word) (s : State) : (advance k s).wpPending = s.wpPending := rfl
@[simp] theorem advance_fatal (k : Word) (s : State) : (advance k s).fatal = s.fatal := rfl
@[simp] theorem advance_intSeen (k : Word) (s : State) : (advance k s).intSeen = s.intSeen := rfl
@[simp] theorem advance_mmu (k : Word) (s : State) : (advance k s).mmu = s.mmu := rfl
@[simp] theorem advance_mmuBuf (k : Word) (s : State) : (advance k s).mmuBuf = s.mmuBuf := rfl
@[simp] theorem advance_irq (k : Word) (s : State) : (advance k s).irq = s.irq := rfl
@[simp] theorem advance_ius (k : Word) (s : State) : (advance k s).ius = s.ius := rfl
@[simp] theorem advance_dma (k : Word) (s : State) : (advance k s).dma = s.dma := rfl
@[simp] theorem advance_wdt (k : Word) (s : State) : (advance k s).wdt = s.wdt := rfl
@[simp] theorem advance_sys (k : Word) (s : State) : (advance k s).sys = s.sys := rfl
@[simp] theorem advance_rti (k : Word) (s : State) : (advance k s).rti = s.rti := rfl
@[simp] theorem advance_pins (k : Word) (s : State) : (advance k s).pins = s.pins := rfl
@[simp] theorem advance_mem (k : Word) (s : State) : (advance k s).mem = s.mem := rfl
@[simp] theorem advance_ioIn (k : Word) (s : State) : (advance k s).ioIn = s.ioIn := rfl
@[simp] theorem advance_busLog (k : Word) (s : State) : (advance k s).busLog = s.busLog := rfl
@[simp] theorem advance_late (k : Word) (s : State) : (advance k s).late = s.late := rfl
@[simp] theorem advance_sched (k : Word) (s : State) : (advance k s).sched = s.sched := rfl
@[simp] theorem advance_free (k : Word) (s : State) : (advance k s).free = s.free := rfl

/-! ## emit -/

@[simp] theorem emit_busLog (e : BusEvent) (s : State) : (s.emit e).busLog = e :: s.busLog := rfl
@[simp] theorem emit_cfg (e : BusEvent) (s : State) : (s.emit e).cfg = s.cfg := rfl
@[simp] theorem emit_reg (e : BusEvent) (s : State) : (s.emit e).reg = s.reg := rfl
@[simp] theorem emit_alt (e : BusEvent) (s : State) : (s.emit e).alt = s.alt := rfl
@[simp] theorem emit_ix (e : BusEvent) (s : State) : (s.emit e).ix = s.ix := rfl
@[simp] theorem emit_iy (e : BusEvent) (s : State) : (s.emit e).iy = s.iy := rfl
@[simp] theorem emit_sp (e : BusEvent) (s : State) : (s.emit e).sp = s.sp := rfl
@[simp] theorem emit_pc (e : BusEvent) (s : State) : (s.emit e).pc = s.pc := rfl
@[simp] theorem emit_i (e : BusEvent) (s : State) : (s.emit e).i = s.i := rfl
@[simp] theorem emit_r (e : BusEvent) (s : State) : (s.emit e).r = s.r := rfl
@[simp] theorem emit_iff1 (e : BusEvent) (s : State) : (s.emit e).iff1 = s.iff1 := rfl
@[simp] theorem emit_iff2 (e : BusEvent) (s : State) : (s.emit e).iff2 = s.iff2 := rfl
@[simp] theorem emit_im (e : BusEvent) (s : State) : (s.emit e).im = s.im := rfl
@[simp] theorem emit_run (e : BusEvent) (s : State) : (s.emit e).run = s.run := rfl
@[simp] theorem emit_haltIntEn (e : BusEvent) (s : State) : (s.emit e).haltIntEn = s.haltIntEn := rfl
@[simp] theorem emit_nmiLatch (e : BusEvent) (s : State) : (s.emit e).nmiLatch = s.nmiLatch := rfl
@[simp] theorem emit_prefetched (e : BusEvent) (s : State) : (s.emit e).prefetched = s.prefetched := rfl
@[simp] theorem emit_repeating (e : BusEvent) (s : State) : (s.emit e).repeating = s.repeating := rfl
@[simp] theorem emit_shadow (e : BusEvent) (s : State) : (s.emit e).shadow = s.shadow := rfl
@[simp] theorem emit_eiShadow (e : BusEvent) (s : State) : (s.emit e).eiShadow = s.eiShadow := rfl
@[simp] theorem emit_wpPending (e : BusEvent) (s : State) : (s.emit e).wpPending = s.wpPending := rfl
@[simp] theorem emit_fatal (e : BusEvent) (s : State) : (s.emit e).fatal = s.fatal := rfl
@[simp] theorem emit_intSeen (e : BusEvent) (s : State) : (s.emit e).intSeen = s.intSeen := rfl
@[simp] theorem emit_mmu (e : BusEvent) (s : State) : (s.emit e).mmu = s.mmu := rfl
@[simp] theorem emit_mmuBuf (e : BusEvent) (s : State) : (s.emit e).mmuBuf = s.mmuBuf := rfl
@[simp] theorem emit_irq (e : BusEvent) (s : State) : (s.emit e).irq = s.irq := rfl
@[simp] theorem emit_ius (e : BusEvent) (s : State) : (s.emit e).ius = s.ius := rfl
@[simp] theorem emit_dma (e : BusEvent) (s : State) : (s.emit e).dma = s.dma := rfl
@[simp] theorem emit_wdt (e : BusEvent) (s : State) : (s.emit e).wdt = s.wdt := rfl
@[simp] theorem emit_sys (e : BusEvent) (s : State) : (s.emit e).sys = s.sys := rfl
@[simp] theorem emit_rti (e : BusEvent) (s : State) : (s.emit e).rti = s.rti := rfl
@[simp] theorem emit_pins (e : BusEvent) (s : State) : (s.emit e).pins = s.pins := rfl
@[simp] theorem emit_mem (e : BusEvent) (s : State) : (s.emit e).mem = s.mem := rfl
@[simp] theorem emit_ioIn (e : BusEvent) (s : State) : (s.emit e).ioIn = s.ioIn := rfl
@[simp] theorem emit_late (e : BusEvent) (s : State) : (s.emit e).late = s.late := rfl
@[simp] theorem emit_sched (e : BusEvent) (s : State) : (s.emit e).sched = s.sched := rfl
@[simp] theorem emit_free (e : BusEvent) (s : State) : (s.emit e).free = s.free := rfl

/-! ## writeFlags -/

@[simp] theorem writeFlags_free (f : Flags) (s : State) : (writeFlags f s).free = s.free + u53Used s := rfl
@[simp] theorem writeFlags_reg_a (f : Flags) (s : State) : (writeFlags f s).reg.a = s.reg.a := rfl
@[simp] theorem writeFlags_reg_b (f : Flags) (s : State) : (writeFlags f s).reg.b = s.reg.b := rfl
@[simp] theorem writeFlags_reg_c (f : Flags) (s : State) : (writeFlags f s).reg.c = s.reg.c := rfl
@[simp] theorem writeFlags_reg_d (f : Flags) (s : State) : (writeFlags f s).reg.d = s.reg.d := rfl
@[simp] theorem writeFlags_reg_e (f : Flags) (s : State) : (writeFlags f s).reg.e = s.reg.e := rfl
@[simp] theorem writeFlags_reg_h (f : Flags) (s : State) : (writeFlags f s).reg.h = s.reg.h := rfl
@[simp] theorem writeFlags_reg_l (f : Flags) (s : State) : (writeFlags f s).reg.l = s.reg.l := rfl
@[simp] theorem writeFlags_flag_s (f : Flags) (s : State) : (writeFlags f s).reg.f.s = f.s := rfl
@[simp] theorem writeFlags_flag_z (f : Flags) (s : State) : (writeFlags f s).reg.f.z = f.z := rfl
@[simp] theorem writeFlags_flag_h (f : Flags) (s : State) : (writeFlags f s).reg.f.h = f.h := rfl
@[simp] theorem writeFlags_flag_pv (f : Flags) (s : State) : (writeFlags f s).reg.f.pv = f.pv := rfl
@[simp] theorem writeFlags_flag_n (f : Flags) (s : State) : (writeFlags f s).reg.f.n = f.n := rfl
@[simp] theorem writeFlags_flag_c (f : Flags) (s : State) : (writeFlags f s).reg.f.c = f.c := rfl
@[simp] theorem writeFlags_cfg (f : Flags) (s : State) : (writeFlags f s).cfg = s.cfg := rfl
@[simp] theorem writeFlags_alt (f : Flags) (s : State) : (writeFlags f s).alt = s.alt := rfl
@[simp] theorem writeFlags_ix (f : Flags) (s : State) : (writeFlags f s).ix = s.ix := rfl
@[simp] theorem writeFlags_iy (f : Flags) (s : State) : (writeFlags f s).iy = s.iy := rfl
@[simp] theorem writeFlags_sp (f : Flags) (s : State) : (writeFlags f s).sp = s.sp := rfl
@[simp] theorem writeFlags_pc (f : Flags) (s : State) : (writeFlags f s).pc = s.pc := rfl
@[simp] theorem writeFlags_i (f : Flags) (s : State) : (writeFlags f s).i = s.i := rfl
@[simp] theorem writeFlags_r (f : Flags) (s : State) : (writeFlags f s).r = s.r := rfl
@[simp] theorem writeFlags_iff1 (f : Flags) (s : State) : (writeFlags f s).iff1 = s.iff1 := rfl
@[simp] theorem writeFlags_iff2 (f : Flags) (s : State) : (writeFlags f s).iff2 = s.iff2 := rfl
@[simp] theorem writeFlags_im (f : Flags) (s : State) : (writeFlags f s).im = s.im := rfl
@[simp] theorem writeFlags_run (f : Flags) (s : State) : (writeFlags f s).run = s.run := rfl
@[simp] theorem writeFlags_haltIntEn (f : Flags) (s : State) : (writeFlags f s).haltIntEn = s.haltIntEn := rfl
@[simp] theorem writeFlags_nmiLatch (f : Flags) (s : State) : (writeFlags f s).nmiLatch = s.nmiLatch := rfl
@[simp] theorem writeFlags_prefetched (f : Flags) (s : State) : (writeFlags f s).prefetched = s.prefetched := rfl
@[simp] theorem writeFlags_repeating (f : Flags) (s : State) : (writeFlags f s).repeating = s.repeating := rfl
@[simp] theorem writeFlags_shadow (f : Flags) (s : State) : (writeFlags f s).shadow = s.shadow := rfl
@[simp] theorem writeFlags_eiShadow (f : Flags) (s : State) : (writeFlags f s).eiShadow = s.eiShadow := rfl
@[simp] theorem writeFlags_wpPending (f : Flags) (s : State) : (writeFlags f s).wpPending = s.wpPending := rfl
@[simp] theorem writeFlags_fatal (f : Flags) (s : State) : (writeFlags f s).fatal = s.fatal := rfl
@[simp] theorem writeFlags_intSeen (f : Flags) (s : State) : (writeFlags f s).intSeen = s.intSeen := rfl
@[simp] theorem writeFlags_mmu (f : Flags) (s : State) : (writeFlags f s).mmu = s.mmu := rfl
@[simp] theorem writeFlags_mmuBuf (f : Flags) (s : State) : (writeFlags f s).mmuBuf = s.mmuBuf := rfl
@[simp] theorem writeFlags_irq (f : Flags) (s : State) : (writeFlags f s).irq = s.irq := rfl
@[simp] theorem writeFlags_ius (f : Flags) (s : State) : (writeFlags f s).ius = s.ius := rfl
@[simp] theorem writeFlags_dma (f : Flags) (s : State) : (writeFlags f s).dma = s.dma := rfl
@[simp] theorem writeFlags_wdt (f : Flags) (s : State) : (writeFlags f s).wdt = s.wdt := rfl
@[simp] theorem writeFlags_sys (f : Flags) (s : State) : (writeFlags f s).sys = s.sys := rfl
@[simp] theorem writeFlags_rti (f : Flags) (s : State) : (writeFlags f s).rti = s.rti := rfl
@[simp] theorem writeFlags_pins (f : Flags) (s : State) : (writeFlags f s).pins = s.pins := rfl
@[simp] theorem writeFlags_mem (f : Flags) (s : State) : (writeFlags f s).mem = s.mem := rfl
@[simp] theorem writeFlags_ioIn (f : Flags) (s : State) : (writeFlags f s).ioIn = s.ioIn := rfl
@[simp] theorem writeFlags_busLog (f : Flags) (s : State) : (writeFlags f s).busLog = s.busLog := rfl
@[simp] theorem writeFlags_late (f : Flags) (s : State) : (writeFlags f s).late = s.late := rfl
@[simp] theorem writeFlags_sched (f : Flags) (s : State) : (writeFlags f s).sched = s.sched := rfl

/-! ## dropStack and dropFetch -/

@[simp] theorem dropStack_sp (s : State) : (dropStack s).sp = s.sp + 2#16 := rfl
@[simp] theorem dropFetch_prefetched (s : State) : (dropFetch s).prefetched = none := rfl
@[simp] theorem dropFetch_repeating (s : State) : (dropFetch s).repeating = none := rfl
@[simp] theorem dropStack_cfg  (s : State) : (dropStack s).cfg = s.cfg := rfl
@[simp] theorem dropStack_reg  (s : State) : (dropStack s).reg = s.reg := rfl
@[simp] theorem dropStack_alt  (s : State) : (dropStack s).alt = s.alt := rfl
@[simp] theorem dropStack_ix  (s : State) : (dropStack s).ix = s.ix := rfl
@[simp] theorem dropStack_iy  (s : State) : (dropStack s).iy = s.iy := rfl
@[simp] theorem dropStack_pc  (s : State) : (dropStack s).pc = s.pc := rfl
@[simp] theorem dropStack_i  (s : State) : (dropStack s).i = s.i := rfl
@[simp] theorem dropStack_r  (s : State) : (dropStack s).r = s.r := rfl
@[simp] theorem dropStack_iff1  (s : State) : (dropStack s).iff1 = s.iff1 := rfl
@[simp] theorem dropStack_iff2  (s : State) : (dropStack s).iff2 = s.iff2 := rfl
@[simp] theorem dropStack_im  (s : State) : (dropStack s).im = s.im := rfl
@[simp] theorem dropStack_run  (s : State) : (dropStack s).run = s.run := rfl
@[simp] theorem dropStack_haltIntEn  (s : State) : (dropStack s).haltIntEn = s.haltIntEn := rfl
@[simp] theorem dropStack_nmiLatch  (s : State) : (dropStack s).nmiLatch = s.nmiLatch := rfl
@[simp] theorem dropStack_prefetched  (s : State) : (dropStack s).prefetched = s.prefetched := rfl
@[simp] theorem dropStack_repeating  (s : State) : (dropStack s).repeating = s.repeating := rfl
@[simp] theorem dropStack_shadow  (s : State) : (dropStack s).shadow = s.shadow := rfl
@[simp] theorem dropStack_eiShadow  (s : State) : (dropStack s).eiShadow = s.eiShadow := rfl
@[simp] theorem dropStack_wpPending  (s : State) : (dropStack s).wpPending = s.wpPending := rfl
@[simp] theorem dropStack_fatal  (s : State) : (dropStack s).fatal = s.fatal := rfl
@[simp] theorem dropStack_intSeen  (s : State) : (dropStack s).intSeen = s.intSeen := rfl
@[simp] theorem dropStack_mmu  (s : State) : (dropStack s).mmu = s.mmu := rfl
@[simp] theorem dropStack_mmuBuf  (s : State) : (dropStack s).mmuBuf = s.mmuBuf := rfl
@[simp] theorem dropStack_irq  (s : State) : (dropStack s).irq = s.irq := rfl
@[simp] theorem dropStack_ius  (s : State) : (dropStack s).ius = s.ius := rfl
@[simp] theorem dropStack_dma  (s : State) : (dropStack s).dma = s.dma := rfl
@[simp] theorem dropStack_wdt  (s : State) : (dropStack s).wdt = s.wdt := rfl
@[simp] theorem dropStack_sys  (s : State) : (dropStack s).sys = s.sys := rfl
@[simp] theorem dropStack_rti  (s : State) : (dropStack s).rti = s.rti := rfl
@[simp] theorem dropStack_pins  (s : State) : (dropStack s).pins = s.pins := rfl
@[simp] theorem dropStack_mem  (s : State) : (dropStack s).mem = s.mem := rfl
@[simp] theorem dropStack_ioIn  (s : State) : (dropStack s).ioIn = s.ioIn := rfl
@[simp] theorem dropStack_busLog  (s : State) : (dropStack s).busLog = s.busLog := rfl
@[simp] theorem dropStack_late  (s : State) : (dropStack s).late = s.late := rfl
@[simp] theorem dropStack_sched  (s : State) : (dropStack s).sched = s.sched := rfl
@[simp] theorem dropStack_free  (s : State) : (dropStack s).free = s.free := rfl
@[simp] theorem dropFetch_cfg  (s : State) : (dropFetch s).cfg = s.cfg := rfl
@[simp] theorem dropFetch_reg  (s : State) : (dropFetch s).reg = s.reg := rfl
@[simp] theorem dropFetch_alt  (s : State) : (dropFetch s).alt = s.alt := rfl
@[simp] theorem dropFetch_ix  (s : State) : (dropFetch s).ix = s.ix := rfl
@[simp] theorem dropFetch_iy  (s : State) : (dropFetch s).iy = s.iy := rfl
@[simp] theorem dropFetch_sp  (s : State) : (dropFetch s).sp = s.sp := rfl
@[simp] theorem dropFetch_pc  (s : State) : (dropFetch s).pc = s.pc := rfl
@[simp] theorem dropFetch_i  (s : State) : (dropFetch s).i = s.i := rfl
@[simp] theorem dropFetch_r  (s : State) : (dropFetch s).r = s.r := rfl
@[simp] theorem dropFetch_iff1  (s : State) : (dropFetch s).iff1 = s.iff1 := rfl
@[simp] theorem dropFetch_iff2  (s : State) : (dropFetch s).iff2 = s.iff2 := rfl
@[simp] theorem dropFetch_im  (s : State) : (dropFetch s).im = s.im := rfl
@[simp] theorem dropFetch_run  (s : State) : (dropFetch s).run = s.run := rfl
@[simp] theorem dropFetch_haltIntEn  (s : State) : (dropFetch s).haltIntEn = s.haltIntEn := rfl
@[simp] theorem dropFetch_nmiLatch  (s : State) : (dropFetch s).nmiLatch = s.nmiLatch := rfl
@[simp] theorem dropFetch_shadow  (s : State) : (dropFetch s).shadow = s.shadow := rfl
@[simp] theorem dropFetch_eiShadow  (s : State) : (dropFetch s).eiShadow = s.eiShadow := rfl
@[simp] theorem dropFetch_wpPending  (s : State) : (dropFetch s).wpPending = s.wpPending := rfl
@[simp] theorem dropFetch_fatal  (s : State) : (dropFetch s).fatal = s.fatal := rfl
@[simp] theorem dropFetch_intSeen  (s : State) : (dropFetch s).intSeen = s.intSeen := rfl
@[simp] theorem dropFetch_mmu  (s : State) : (dropFetch s).mmu = s.mmu := rfl
@[simp] theorem dropFetch_mmuBuf  (s : State) : (dropFetch s).mmuBuf = s.mmuBuf := rfl
@[simp] theorem dropFetch_irq  (s : State) : (dropFetch s).irq = s.irq := rfl
@[simp] theorem dropFetch_ius  (s : State) : (dropFetch s).ius = s.ius := rfl
@[simp] theorem dropFetch_dma  (s : State) : (dropFetch s).dma = s.dma := rfl
@[simp] theorem dropFetch_wdt  (s : State) : (dropFetch s).wdt = s.wdt := rfl
@[simp] theorem dropFetch_sys  (s : State) : (dropFetch s).sys = s.sys := rfl
@[simp] theorem dropFetch_rti  (s : State) : (dropFetch s).rti = s.rti := rfl
@[simp] theorem dropFetch_pins  (s : State) : (dropFetch s).pins = s.pins := rfl
@[simp] theorem dropFetch_mem  (s : State) : (dropFetch s).mem = s.mem := rfl
@[simp] theorem dropFetch_ioIn  (s : State) : (dropFetch s).ioIn = s.ioIn := rfl
@[simp] theorem dropFetch_busLog  (s : State) : (dropFetch s).busLog = s.busLog := rfl
@[simp] theorem dropFetch_late  (s : State) : (dropFetch s).late = s.late := rfl
@[simp] theorem dropFetch_sched  (s : State) : (dropFetch s).sched = s.sched := rfl
@[simp] theorem dropFetch_free  (s : State) : (dropFetch s).free = s.free := rfl

/-! ## Register writes -/

@[simp] theorem getR_setR (r : R8) (v : Byte) (s : State) : getR r (setR r v s) = v := by cases r <;> rfl
theorem getR_setR_ne (r q : R8) (v : Byte) (s : State) (h : r ≠ q) : getR q (setR r v s) = getR q s := by
  cases r <;> cases q <;> first | rfl | exact absurd rfl h
@[simp] theorem setR_flags (r : R8) (v : Byte) (s : State) : (setR r v s).reg.f = s.reg.f := by cases r <;> rfl
@[simp] theorem getIdx_setIdx (y : Idx) (w : Word) (s : State) : getIdx y (setIdx y w s) = w := by cases y <;> rfl
@[simp] theorem setR_cfg (r : R8) (v : Byte) (s : State) : (setR r v s).cfg = s.cfg := by cases r <;> rfl
@[simp] theorem setR_alt (r : R8) (v : Byte) (s : State) : (setR r v s).alt = s.alt := by cases r <;> rfl
@[simp] theorem setR_ix (r : R8) (v : Byte) (s : State) : (setR r v s).ix = s.ix := by cases r <;> rfl
@[simp] theorem setR_iy (r : R8) (v : Byte) (s : State) : (setR r v s).iy = s.iy := by cases r <;> rfl
@[simp] theorem setR_sp (r : R8) (v : Byte) (s : State) : (setR r v s).sp = s.sp := by cases r <;> rfl
@[simp] theorem setR_pc (r : R8) (v : Byte) (s : State) : (setR r v s).pc = s.pc := by cases r <;> rfl
@[simp] theorem setR_i (r : R8) (v : Byte) (s : State) : (setR r v s).i = s.i := by cases r <;> rfl
@[simp] theorem setR_r (r : R8) (v : Byte) (s : State) : (setR r v s).r = s.r := by cases r <;> rfl
@[simp] theorem setR_iff1 (r : R8) (v : Byte) (s : State) : (setR r v s).iff1 = s.iff1 := by cases r <;> rfl
@[simp] theorem setR_iff2 (r : R8) (v : Byte) (s : State) : (setR r v s).iff2 = s.iff2 := by cases r <;> rfl
@[simp] theorem setR_im (r : R8) (v : Byte) (s : State) : (setR r v s).im = s.im := by cases r <;> rfl
@[simp] theorem setR_run (r : R8) (v : Byte) (s : State) : (setR r v s).run = s.run := by cases r <;> rfl
@[simp] theorem setR_haltIntEn (r : R8) (v : Byte) (s : State) : (setR r v s).haltIntEn = s.haltIntEn := by cases r <;> rfl
@[simp] theorem setR_nmiLatch (r : R8) (v : Byte) (s : State) : (setR r v s).nmiLatch = s.nmiLatch := by cases r <;> rfl
@[simp] theorem setR_prefetched (r : R8) (v : Byte) (s : State) : (setR r v s).prefetched = s.prefetched := by cases r <;> rfl
@[simp] theorem setR_repeating (r : R8) (v : Byte) (s : State) : (setR r v s).repeating = s.repeating := by cases r <;> rfl
@[simp] theorem setR_shadow (r : R8) (v : Byte) (s : State) : (setR r v s).shadow = s.shadow := by cases r <;> rfl
@[simp] theorem setR_eiShadow (r : R8) (v : Byte) (s : State) : (setR r v s).eiShadow = s.eiShadow := by cases r <;> rfl
@[simp] theorem setR_wpPending (r : R8) (v : Byte) (s : State) : (setR r v s).wpPending = s.wpPending := by cases r <;> rfl
@[simp] theorem setR_fatal (r : R8) (v : Byte) (s : State) : (setR r v s).fatal = s.fatal := by cases r <;> rfl
@[simp] theorem setR_intSeen (r : R8) (v : Byte) (s : State) : (setR r v s).intSeen = s.intSeen := by cases r <;> rfl
@[simp] theorem setR_mmu (r : R8) (v : Byte) (s : State) : (setR r v s).mmu = s.mmu := by cases r <;> rfl
@[simp] theorem setR_mmuBuf (r : R8) (v : Byte) (s : State) : (setR r v s).mmuBuf = s.mmuBuf := by cases r <;> rfl
@[simp] theorem setR_irq (r : R8) (v : Byte) (s : State) : (setR r v s).irq = s.irq := by cases r <;> rfl
@[simp] theorem setR_ius (r : R8) (v : Byte) (s : State) : (setR r v s).ius = s.ius := by cases r <;> rfl
@[simp] theorem setR_dma (r : R8) (v : Byte) (s : State) : (setR r v s).dma = s.dma := by cases r <;> rfl
@[simp] theorem setR_wdt (r : R8) (v : Byte) (s : State) : (setR r v s).wdt = s.wdt := by cases r <;> rfl
@[simp] theorem setR_sys (r : R8) (v : Byte) (s : State) : (setR r v s).sys = s.sys := by cases r <;> rfl
@[simp] theorem setR_rti (r : R8) (v : Byte) (s : State) : (setR r v s).rti = s.rti := by cases r <;> rfl
@[simp] theorem setR_pins (r : R8) (v : Byte) (s : State) : (setR r v s).pins = s.pins := by cases r <;> rfl
@[simp] theorem setR_mem (r : R8) (v : Byte) (s : State) : (setR r v s).mem = s.mem := by cases r <;> rfl
@[simp] theorem setR_ioIn (r : R8) (v : Byte) (s : State) : (setR r v s).ioIn = s.ioIn := by cases r <;> rfl
@[simp] theorem setR_busLog (r : R8) (v : Byte) (s : State) : (setR r v s).busLog = s.busLog := by cases r <;> rfl
@[simp] theorem setR_late (r : R8) (v : Byte) (s : State) : (setR r v s).late = s.late := by cases r <;> rfl
@[simp] theorem setR_sched (r : R8) (v : Byte) (s : State) : (setR r v s).sched = s.sched := by cases r <;> rfl
@[simp] theorem setR_free (r : R8) (v : Byte) (s : State) : (setR r v s).free = s.free := by cases r <;> rfl
@[simp] theorem setIdx_cfg (y : Idx) (w : Word) (s : State) : (setIdx y w s).cfg = s.cfg := by cases y <;> rfl
@[simp] theorem setIdx_reg (y : Idx) (w : Word) (s : State) : (setIdx y w s).reg = s.reg := by cases y <;> rfl
@[simp] theorem setIdx_alt (y : Idx) (w : Word) (s : State) : (setIdx y w s).alt = s.alt := by cases y <;> rfl
@[simp] theorem setIdx_sp (y : Idx) (w : Word) (s : State) : (setIdx y w s).sp = s.sp := by cases y <;> rfl
@[simp] theorem setIdx_pc (y : Idx) (w : Word) (s : State) : (setIdx y w s).pc = s.pc := by cases y <;> rfl
@[simp] theorem setIdx_i (y : Idx) (w : Word) (s : State) : (setIdx y w s).i = s.i := by cases y <;> rfl
@[simp] theorem setIdx_r (y : Idx) (w : Word) (s : State) : (setIdx y w s).r = s.r := by cases y <;> rfl
@[simp] theorem setIdx_iff1 (y : Idx) (w : Word) (s : State) : (setIdx y w s).iff1 = s.iff1 := by cases y <;> rfl
@[simp] theorem setIdx_iff2 (y : Idx) (w : Word) (s : State) : (setIdx y w s).iff2 = s.iff2 := by cases y <;> rfl
@[simp] theorem setIdx_im (y : Idx) (w : Word) (s : State) : (setIdx y w s).im = s.im := by cases y <;> rfl
@[simp] theorem setIdx_run (y : Idx) (w : Word) (s : State) : (setIdx y w s).run = s.run := by cases y <;> rfl
@[simp] theorem setIdx_haltIntEn (y : Idx) (w : Word) (s : State) : (setIdx y w s).haltIntEn = s.haltIntEn := by cases y <;> rfl
@[simp] theorem setIdx_nmiLatch (y : Idx) (w : Word) (s : State) : (setIdx y w s).nmiLatch = s.nmiLatch := by cases y <;> rfl
@[simp] theorem setIdx_prefetched (y : Idx) (w : Word) (s : State) : (setIdx y w s).prefetched = s.prefetched := by cases y <;> rfl
@[simp] theorem setIdx_repeating (y : Idx) (w : Word) (s : State) : (setIdx y w s).repeating = s.repeating := by cases y <;> rfl
@[simp] theorem setIdx_shadow (y : Idx) (w : Word) (s : State) : (setIdx y w s).shadow = s.shadow := by cases y <;> rfl
@[simp] theorem setIdx_eiShadow (y : Idx) (w : Word) (s : State) : (setIdx y w s).eiShadow = s.eiShadow := by cases y <;> rfl
@[simp] theorem setIdx_wpPending (y : Idx) (w : Word) (s : State) : (setIdx y w s).wpPending = s.wpPending := by cases y <;> rfl
@[simp] theorem setIdx_fatal (y : Idx) (w : Word) (s : State) : (setIdx y w s).fatal = s.fatal := by cases y <;> rfl
@[simp] theorem setIdx_intSeen (y : Idx) (w : Word) (s : State) : (setIdx y w s).intSeen = s.intSeen := by cases y <;> rfl
@[simp] theorem setIdx_mmu (y : Idx) (w : Word) (s : State) : (setIdx y w s).mmu = s.mmu := by cases y <;> rfl
@[simp] theorem setIdx_mmuBuf (y : Idx) (w : Word) (s : State) : (setIdx y w s).mmuBuf = s.mmuBuf := by cases y <;> rfl
@[simp] theorem setIdx_irq (y : Idx) (w : Word) (s : State) : (setIdx y w s).irq = s.irq := by cases y <;> rfl
@[simp] theorem setIdx_ius (y : Idx) (w : Word) (s : State) : (setIdx y w s).ius = s.ius := by cases y <;> rfl
@[simp] theorem setIdx_dma (y : Idx) (w : Word) (s : State) : (setIdx y w s).dma = s.dma := by cases y <;> rfl
@[simp] theorem setIdx_wdt (y : Idx) (w : Word) (s : State) : (setIdx y w s).wdt = s.wdt := by cases y <;> rfl
@[simp] theorem setIdx_sys (y : Idx) (w : Word) (s : State) : (setIdx y w s).sys = s.sys := by cases y <;> rfl
@[simp] theorem setIdx_rti (y : Idx) (w : Word) (s : State) : (setIdx y w s).rti = s.rti := by cases y <;> rfl
@[simp] theorem setIdx_pins (y : Idx) (w : Word) (s : State) : (setIdx y w s).pins = s.pins := by cases y <;> rfl
@[simp] theorem setIdx_mem (y : Idx) (w : Word) (s : State) : (setIdx y w s).mem = s.mem := by cases y <;> rfl
@[simp] theorem setIdx_ioIn (y : Idx) (w : Word) (s : State) : (setIdx y w s).ioIn = s.ioIn := by cases y <;> rfl
@[simp] theorem setIdx_busLog (y : Idx) (w : Word) (s : State) : (setIdx y w s).busLog = s.busLog := by cases y <;> rfl
@[simp] theorem setIdx_late (y : Idx) (w : Word) (s : State) : (setIdx y w s).late = s.late := by cases y <;> rfl
@[simp] theorem setIdx_sched (y : Idx) (w : Word) (s : State) : (setIdx y w s).sched = s.sched := by cases y <;> rfl
@[simp] theorem setIdx_free (y : Idx) (w : Word) (s : State) : (setIdx y w s).free = s.free := by cases y <;> rfl
@[simp] theorem setPair_cfg (p : Pair) (w : Word) (s : State) : (setPair p w s).cfg = s.cfg := by cases p <;> rfl
@[simp] theorem setPair_alt (p : Pair) (w : Word) (s : State) : (setPair p w s).alt = s.alt := by cases p <;> rfl
@[simp] theorem setPair_pc (p : Pair) (w : Word) (s : State) : (setPair p w s).pc = s.pc := by cases p <;> rfl
@[simp] theorem setPair_i (p : Pair) (w : Word) (s : State) : (setPair p w s).i = s.i := by cases p <;> rfl
@[simp] theorem setPair_r (p : Pair) (w : Word) (s : State) : (setPair p w s).r = s.r := by cases p <;> rfl
@[simp] theorem setPair_iff1 (p : Pair) (w : Word) (s : State) : (setPair p w s).iff1 = s.iff1 := by cases p <;> rfl
@[simp] theorem setPair_iff2 (p : Pair) (w : Word) (s : State) : (setPair p w s).iff2 = s.iff2 := by cases p <;> rfl
@[simp] theorem setPair_im (p : Pair) (w : Word) (s : State) : (setPair p w s).im = s.im := by cases p <;> rfl
@[simp] theorem setPair_run (p : Pair) (w : Word) (s : State) : (setPair p w s).run = s.run := by cases p <;> rfl
@[simp] theorem setPair_haltIntEn (p : Pair) (w : Word) (s : State) : (setPair p w s).haltIntEn = s.haltIntEn := by cases p <;> rfl
@[simp] theorem setPair_nmiLatch (p : Pair) (w : Word) (s : State) : (setPair p w s).nmiLatch = s.nmiLatch := by cases p <;> rfl
@[simp] theorem setPair_prefetched (p : Pair) (w : Word) (s : State) : (setPair p w s).prefetched = s.prefetched := by cases p <;> rfl
@[simp] theorem setPair_repeating (p : Pair) (w : Word) (s : State) : (setPair p w s).repeating = s.repeating := by cases p <;> rfl
@[simp] theorem setPair_shadow (p : Pair) (w : Word) (s : State) : (setPair p w s).shadow = s.shadow := by cases p <;> rfl
@[simp] theorem setPair_eiShadow (p : Pair) (w : Word) (s : State) : (setPair p w s).eiShadow = s.eiShadow := by cases p <;> rfl
@[simp] theorem setPair_wpPending (p : Pair) (w : Word) (s : State) : (setPair p w s).wpPending = s.wpPending := by cases p <;> rfl
@[simp] theorem setPair_fatal (p : Pair) (w : Word) (s : State) : (setPair p w s).fatal = s.fatal := by cases p <;> rfl
@[simp] theorem setPair_intSeen (p : Pair) (w : Word) (s : State) : (setPair p w s).intSeen = s.intSeen := by cases p <;> rfl
@[simp] theorem setPair_mmu (p : Pair) (w : Word) (s : State) : (setPair p w s).mmu = s.mmu := by cases p <;> rfl
@[simp] theorem setPair_mmuBuf (p : Pair) (w : Word) (s : State) : (setPair p w s).mmuBuf = s.mmuBuf := by cases p <;> rfl
@[simp] theorem setPair_irq (p : Pair) (w : Word) (s : State) : (setPair p w s).irq = s.irq := by cases p <;> rfl
@[simp] theorem setPair_ius (p : Pair) (w : Word) (s : State) : (setPair p w s).ius = s.ius := by cases p <;> rfl
@[simp] theorem setPair_dma (p : Pair) (w : Word) (s : State) : (setPair p w s).dma = s.dma := by cases p <;> rfl
@[simp] theorem setPair_wdt (p : Pair) (w : Word) (s : State) : (setPair p w s).wdt = s.wdt := by cases p <;> rfl
@[simp] theorem setPair_sys (p : Pair) (w : Word) (s : State) : (setPair p w s).sys = s.sys := by cases p <;> rfl
@[simp] theorem setPair_rti (p : Pair) (w : Word) (s : State) : (setPair p w s).rti = s.rti := by cases p <;> rfl
@[simp] theorem setPair_pins (p : Pair) (w : Word) (s : State) : (setPair p w s).pins = s.pins := by cases p <;> rfl
@[simp] theorem setPair_mem (p : Pair) (w : Word) (s : State) : (setPair p w s).mem = s.mem := by cases p <;> rfl
@[simp] theorem setPair_ioIn (p : Pair) (w : Word) (s : State) : (setPair p w s).ioIn = s.ioIn := by cases p <;> rfl
@[simp] theorem setPair_busLog (p : Pair) (w : Word) (s : State) : (setPair p w s).busLog = s.busLog := by cases p <;> rfl
@[simp] theorem setPair_late (p : Pair) (w : Word) (s : State) : (setPair p w s).late = s.late := by cases p <;> rfl
@[simp] theorem setPair_sched (p : Pair) (w : Word) (s : State) : (setPair p w s).sched = s.sched := by cases p <;> rfl
@[simp] theorem setPair_free (p : Pair) (w : Word) (s : State) : (setPair p w s).free = s.free := by cases p <;> rfl

/-! ## I/O -/

@[simp] theorem ioWrite_cfg (port : Word) (v : Byte) (s : State) : (ioWrite port v s).cfg = s.cfg := rfl
@[simp] theorem ioWrite_reg (port : Word) (v : Byte) (s : State) : (ioWrite port v s).reg = s.reg := rfl
@[simp] theorem ioWrite_alt (port : Word) (v : Byte) (s : State) : (ioWrite port v s).alt = s.alt := rfl
@[simp] theorem ioWrite_ix (port : Word) (v : Byte) (s : State) : (ioWrite port v s).ix = s.ix := rfl
@[simp] theorem ioWrite_iy (port : Word) (v : Byte) (s : State) : (ioWrite port v s).iy = s.iy := rfl
@[simp] theorem ioWrite_sp (port : Word) (v : Byte) (s : State) : (ioWrite port v s).sp = s.sp := rfl
@[simp] theorem ioWrite_pc (port : Word) (v : Byte) (s : State) : (ioWrite port v s).pc = s.pc := rfl
@[simp] theorem ioWrite_i (port : Word) (v : Byte) (s : State) : (ioWrite port v s).i = s.i := rfl
@[simp] theorem ioWrite_r (port : Word) (v : Byte) (s : State) : (ioWrite port v s).r = s.r := rfl
@[simp] theorem ioWrite_iff1 (port : Word) (v : Byte) (s : State) : (ioWrite port v s).iff1 = s.iff1 := rfl
@[simp] theorem ioWrite_iff2 (port : Word) (v : Byte) (s : State) : (ioWrite port v s).iff2 = s.iff2 := rfl
@[simp] theorem ioWrite_im (port : Word) (v : Byte) (s : State) : (ioWrite port v s).im = s.im := rfl
@[simp] theorem ioWrite_run (port : Word) (v : Byte) (s : State) : (ioWrite port v s).run = s.run := rfl
@[simp] theorem ioWrite_haltIntEn (port : Word) (v : Byte) (s : State) : (ioWrite port v s).haltIntEn = s.haltIntEn := rfl
@[simp] theorem ioWrite_nmiLatch (port : Word) (v : Byte) (s : State) : (ioWrite port v s).nmiLatch = s.nmiLatch := rfl
@[simp] theorem ioWrite_prefetched (port : Word) (v : Byte) (s : State) : (ioWrite port v s).prefetched = s.prefetched := rfl
@[simp] theorem ioWrite_repeating (port : Word) (v : Byte) (s : State) : (ioWrite port v s).repeating = s.repeating := rfl
@[simp] theorem ioWrite_shadow (port : Word) (v : Byte) (s : State) : (ioWrite port v s).shadow = s.shadow := rfl
@[simp] theorem ioWrite_eiShadow (port : Word) (v : Byte) (s : State) : (ioWrite port v s).eiShadow = s.eiShadow := rfl
@[simp] theorem ioWrite_wpPending (port : Word) (v : Byte) (s : State) : (ioWrite port v s).wpPending = s.wpPending := rfl
@[simp] theorem ioWrite_fatal (port : Word) (v : Byte) (s : State) : (ioWrite port v s).fatal = s.fatal := rfl
@[simp] theorem ioWrite_intSeen (port : Word) (v : Byte) (s : State) : (ioWrite port v s).intSeen = s.intSeen := rfl
@[simp] theorem ioWrite_mmu (port : Word) (v : Byte) (s : State) : (ioWrite port v s).mmu = s.mmu := rfl
@[simp] theorem ioWrite_mmuBuf (port : Word) (v : Byte) (s : State) : (ioWrite port v s).mmuBuf = s.mmuBuf := rfl
@[simp] theorem ioWrite_irq (port : Word) (v : Byte) (s : State) : (ioWrite port v s).irq = s.irq := rfl
@[simp] theorem ioWrite_ius (port : Word) (v : Byte) (s : State) : (ioWrite port v s).ius = s.ius := rfl
@[simp] theorem ioWrite_dma (port : Word) (v : Byte) (s : State) : (ioWrite port v s).dma = s.dma := rfl
@[simp] theorem ioWrite_wdt (port : Word) (v : Byte) (s : State) : (ioWrite port v s).wdt = s.wdt := rfl
@[simp] theorem ioWrite_sys (port : Word) (v : Byte) (s : State) : (ioWrite port v s).sys = s.sys := rfl
@[simp] theorem ioWrite_rti (port : Word) (v : Byte) (s : State) : (ioWrite port v s).rti = s.rti := rfl
@[simp] theorem ioWrite_pins (port : Word) (v : Byte) (s : State) : (ioWrite port v s).pins = s.pins := rfl
@[simp] theorem ioWrite_mem (port : Word) (v : Byte) (s : State) : (ioWrite port v s).mem = s.mem := rfl
@[simp] theorem ioWrite_ioIn (port : Word) (v : Byte) (s : State) : (ioWrite port v s).ioIn = s.ioIn := rfl
@[simp] theorem ioWrite_late (port : Word) (v : Byte) (s : State) : (ioWrite port v s).late = s.late := rfl
@[simp] theorem ioWrite_sched (port : Word) (v : Byte) (s : State) : (ioWrite port v s).sched = s.sched := rfl
@[simp] theorem ioWrite_free (port : Word) (v : Byte) (s : State) : (ioWrite port v s).free = s.free := rfl
@[simp] theorem ioReadDone_cfg (port : Word) (s : State) : (ioReadDone port s).cfg = s.cfg := by unfold ioReadDone; split <;> rfl
@[simp] theorem ioReadDone_reg (port : Word) (s : State) : (ioReadDone port s).reg = s.reg := by unfold ioReadDone; split <;> rfl
@[simp] theorem ioReadDone_alt (port : Word) (s : State) : (ioReadDone port s).alt = s.alt := by unfold ioReadDone; split <;> rfl
@[simp] theorem ioReadDone_ix (port : Word) (s : State) : (ioReadDone port s).ix = s.ix := by unfold ioReadDone; split <;> rfl
@[simp] theorem ioReadDone_iy (port : Word) (s : State) : (ioReadDone port s).iy = s.iy := by unfold ioReadDone; split <;> rfl
@[simp] theorem ioReadDone_sp (port : Word) (s : State) : (ioReadDone port s).sp = s.sp := by unfold ioReadDone; split <;> rfl
@[simp] theorem ioReadDone_pc (port : Word) (s : State) : (ioReadDone port s).pc = s.pc := by unfold ioReadDone; split <;> rfl
@[simp] theorem ioReadDone_i (port : Word) (s : State) : (ioReadDone port s).i = s.i := by unfold ioReadDone; split <;> rfl
@[simp] theorem ioReadDone_r (port : Word) (s : State) : (ioReadDone port s).r = s.r := by unfold ioReadDone; split <;> rfl
@[simp] theorem ioReadDone_iff1 (port : Word) (s : State) : (ioReadDone port s).iff1 = s.iff1 := by unfold ioReadDone; split <;> rfl
@[simp] theorem ioReadDone_iff2 (port : Word) (s : State) : (ioReadDone port s).iff2 = s.iff2 := by unfold ioReadDone; split <;> rfl
@[simp] theorem ioReadDone_im (port : Word) (s : State) : (ioReadDone port s).im = s.im := by unfold ioReadDone; split <;> rfl
@[simp] theorem ioReadDone_run (port : Word) (s : State) : (ioReadDone port s).run = s.run := by unfold ioReadDone; split <;> rfl
@[simp] theorem ioReadDone_haltIntEn (port : Word) (s : State) : (ioReadDone port s).haltIntEn = s.haltIntEn := by unfold ioReadDone; split <;> rfl
@[simp] theorem ioReadDone_nmiLatch (port : Word) (s : State) : (ioReadDone port s).nmiLatch = s.nmiLatch := by unfold ioReadDone; split <;> rfl
@[simp] theorem ioReadDone_prefetched (port : Word) (s : State) : (ioReadDone port s).prefetched = s.prefetched := by unfold ioReadDone; split <;> rfl
@[simp] theorem ioReadDone_repeating (port : Word) (s : State) : (ioReadDone port s).repeating = s.repeating := by unfold ioReadDone; split <;> rfl
@[simp] theorem ioReadDone_shadow (port : Word) (s : State) : (ioReadDone port s).shadow = s.shadow := by unfold ioReadDone; split <;> rfl
@[simp] theorem ioReadDone_eiShadow (port : Word) (s : State) : (ioReadDone port s).eiShadow = s.eiShadow := by unfold ioReadDone; split <;> rfl
@[simp] theorem ioReadDone_wpPending (port : Word) (s : State) : (ioReadDone port s).wpPending = s.wpPending := by unfold ioReadDone; split <;> rfl
@[simp] theorem ioReadDone_fatal (port : Word) (s : State) : (ioReadDone port s).fatal = s.fatal := by unfold ioReadDone; split <;> rfl
@[simp] theorem ioReadDone_intSeen (port : Word) (s : State) : (ioReadDone port s).intSeen = s.intSeen := by unfold ioReadDone; split <;> rfl
@[simp] theorem ioReadDone_mmu (port : Word) (s : State) : (ioReadDone port s).mmu = s.mmu := by unfold ioReadDone; split <;> rfl
@[simp] theorem ioReadDone_mmuBuf (port : Word) (s : State) : (ioReadDone port s).mmuBuf = s.mmuBuf := by unfold ioReadDone; split <;> rfl
@[simp] theorem ioReadDone_irq (port : Word) (s : State) : (ioReadDone port s).irq = s.irq := by unfold ioReadDone; split <;> rfl
@[simp] theorem ioReadDone_ius (port : Word) (s : State) : (ioReadDone port s).ius = s.ius := by unfold ioReadDone; split <;> rfl
@[simp] theorem ioReadDone_dma (port : Word) (s : State) : (ioReadDone port s).dma = s.dma := by unfold ioReadDone; split <;> rfl
@[simp] theorem ioReadDone_wdt (port : Word) (s : State) : (ioReadDone port s).wdt = s.wdt := by unfold ioReadDone; split <;> rfl
@[simp] theorem ioReadDone_sys (port : Word) (s : State) : (ioReadDone port s).sys = s.sys := by unfold ioReadDone; split <;> rfl
@[simp] theorem ioReadDone_rti (port : Word) (s : State) : (ioReadDone port s).rti = s.rti := by unfold ioReadDone; split <;> rfl
@[simp] theorem ioReadDone_pins (port : Word) (s : State) : (ioReadDone port s).pins = s.pins := by unfold ioReadDone; split <;> rfl
@[simp] theorem ioReadDone_mem (port : Word) (s : State) : (ioReadDone port s).mem = s.mem := by unfold ioReadDone; split <;> rfl
@[simp] theorem ioReadDone_late (port : Word) (s : State) : (ioReadDone port s).late = s.late := by unfold ioReadDone; split <;> rfl
@[simp] theorem ioReadDone_sched (port : Word) (s : State) : (ioReadDone port s).sched = s.sched := by unfold ioReadDone; split <;> rfl

end Sys2Proof.Machine
end

