-- ==== Sys2Proof/Laws/Ops.lean ====
section
/-! SUPPORT. What each shared operation can do, said once: bits and words, memory and its canonical form,
translation, the stores, the stack, taking an exception, and the user reset. -/

namespace Sys2Proof.Machine

/-! ## Words and bytes -/

@[simp] theorem hiByte_mk16 (hi lo : Byte) : hiByte (mk16 hi lo) = hi := by
  apply BitVec.eq_of_getLsbD_eq; intro k hk
  simp only [hiByte, mk16, BitVec.getLsbD_extractLsb', BitVec.getLsbD_append]
  simp [hk]

@[simp] theorem loByte_mk16 (hi lo : Byte) : loByte (mk16 hi lo) = lo := by
  apply BitVec.eq_of_getLsbD_eq; intro k hk
  simp only [loByte, mk16, BitVec.getLsbD_extractLsb', BitVec.getLsbD_append]
  simp [hk]

@[simp] theorem mk16_hi_lo (w : Word) : mk16 (hiByte w) (loByte w) = w := by
  apply BitVec.eq_of_getLsbD_eq; intro k hk
  simp only [mk16, hiByte, loByte, BitVec.getLsbD_append, BitVec.getLsbD_extractLsb']
  split
  · simp [*]
  · rw [show 8 + (k - 8) = k by omega]; simp; omega

theorem mk16_toNat (hi lo : Byte) : (mk16 hi lo).toNat = 256 * hi.toNat + lo.toNat := by
  simp only [mk16, BitVec.toNat_append]
  rw [Nat.shiftLeft_eq, Nat.mul_comm, ← Nat.two_pow_add_eq_or_of_lt lo.isLt]

@[simp] theorem hiByte_toNat (w : Word) : (hiByte w).toNat = w.toNat / 256 := by
  simp only [hiByte, BitVec.extractLsb'_toNat, Nat.shiftRight_eq_div_pow]
  have := w.isLt
  omega

@[simp] theorem loByte_toNat (w : Word) : (loByte w).toNat = w.toNat % 256 := by
  simp [loByte, BitVec.extractLsb'_toNat]

@[simp] theorem flagsOfByte_toByte (f : Flags) : flagsOfByte (flagsToByte f) = f := by
  obtain ⟨a, b, c, d, e, g, h, i⟩ := f
  revert a b c d e g h i; decide

/-! ## Memory cells -/

theorem Memory.get_erase (m : Memory) (a b : Nat) :
    (m.erase a).get b = if b = a then unlistedByte else m.get b := by
  induction m with
  | nil => simp [Memory.erase, Memory.get]
  | cons cell m ih =>
    obtain ⟨k, v⟩ := cell
    simp only [Memory.erase] at ih ⊢
    by_cases hk : k = a
    · subst hk
      simp only [List.filter, ne_eq, not_true_eq_false, decide_false, ih, Memory.get]
      by_cases hb : b = k
      · simp [hb]
      · simp [hb, Ne.symm hb]
    · simp only [List.filter, ne_eq, hk, not_false_eq_true, decide_true, Memory.get, ih]
      by_cases hb : k = b
      · subst hb; simp [hk]
      · simp [hb]

theorem Memory.get_insert (m : Memory) (a b : Nat) (v : Byte) :
    (m.insert a v).get b = if b = a then v else m.get b := by
  induction m with
  | nil => simp only [Memory.insert, Memory.get, eq_comm]
  | cons cell m ih =>
    obtain ⟨k, w⟩ := cell
    simp only [Memory.insert]
    split
    · simp only [Memory.get, eq_comm]
    · split
      · rename_i h; subst h
        by_cases hb : b = a
        · simp [Memory.get, hb]
        · simp [Memory.get, hb, Ne.symm hb]
      · rename_i h
        simp only [Memory.get, ih]
        by_cases hb : k = b
        · subst hb; simp [Ne.symm h]
        · simp [hb]

/-- A read after a write: the value at that address, every other address as before. -/
@[simp] theorem Memory.get_set (m : Memory) (a b : Nat) (v : Byte) :
    (m.set a v).get b = if b = a then v else m.get b := by
  unfold Memory.set
  split
  · rename_i h; rw [Memory.get_erase, h]
  · exact Memory.get_insert m a b v

/-! ## The canonical form -/

/-- The keys of a list all exceed a number. -/
theorem Memory.wf_cons (k : Nat) (v : Byte) (m : Memory) :
    Memory.wf ((k, v) :: m) = true ↔
      v ≠ unlistedByte ∧ k < 2 ^ 28 ∧ (∀ c ∈ m, k < c.1) ∧ m.wf = true := by
  induction m generalizing k v with
  | nil => simp [Memory.wf]
  | cons cell m ih =>
    obtain ⟨k', v'⟩ := cell
    rw [Memory.wf]
    simp only [Bool.and_eq_true, decide_eq_true_eq, List.mem_cons, forall_eq_or_imp]
    constructor
    · rintro ⟨⟨⟨h1, h2⟩, h3⟩, h4⟩
      have := (ih k' v').1 h4
      exact ⟨h1, h2, ⟨h3, fun c hc => by have := this.2.2.1 c hc; omega⟩, h4⟩
    · rintro ⟨h1, h2, ⟨h3, -⟩, h4⟩
      exact ⟨⟨⟨h1, h2⟩, h3⟩, h4⟩

theorem Memory.wf_erase (m : Memory) (a : Nat) (h : m.wf = true) : (m.erase a).wf = true := by
  induction m with
  | nil => rfl
  | cons cell m ih =>
    obtain ⟨k, v⟩ := cell
    obtain ⟨h1, h2, h3, h4⟩ := (Memory.wf_cons k v m).1 h
    simp only [Memory.erase, List.filter]
    split
    · refine (Memory.wf_cons _ _ _).2 ⟨h1, h2, ?_, ih h4⟩
      intro c hc
      exact h3 c (List.mem_filter.1 hc).1
    · exact ih h4

theorem Memory.mem_insert (m : Memory) (a : Nat) (v : Byte) (c : Host.Cell) (h : c ∈ m.insert a v) :
    c = (a, v) ∨ c ∈ m := by
  induction m with
  | nil => simpa [Memory.insert] using h
  | cons cell m ih =>
    obtain ⟨k, w⟩ := cell
    simp only [Memory.insert] at h
    split at h
    · simpa using h
    · split at h
      · rcases List.mem_cons.1 h with h | h
        · exact Or.inl h
        · exact Or.inr (List.mem_cons_of_mem _ h)
      · rcases List.mem_cons.1 h with h | h
        · exact Or.inr (h ▸ List.mem_cons_self)
        · rcases ih h with h | h
          · exact Or.inl h
          · exact Or.inr (List.mem_cons_of_mem _ h)

theorem Memory.wf_insert (m : Memory) (a : Nat) (v : Byte) (hv : v ≠ unlistedByte) (ha : a < 2 ^ 28)
    (h : m.wf = true) : (m.insert a v).wf = true := by
  induction m with
  | nil => exact (Memory.wf_cons _ _ _).2 ⟨hv, ha, by simp, rfl⟩
  | cons cell m ih =>
    obtain ⟨k, w⟩ := cell
    obtain ⟨h1, h2, h3, h4⟩ := (Memory.wf_cons k w m).1 h
    simp only [Memory.insert]
    split
    · rename_i hlt
      refine (Memory.wf_cons _ _ _).2 ⟨hv, ha, ?_, h⟩
      intro c hc
      rcases List.mem_cons.1 hc with rfl | hc
      · exact hlt
      · have := h3 c hc; omega
    · split
      · rename_i _ heq
        subst heq
        exact (Memory.wf_cons _ _ _).2 ⟨hv, ha, h3, h4⟩
      · rename_i hlt hne
        refine (Memory.wf_cons _ _ _).2 ⟨h1, h2, ?_, ih h4⟩
        intro c hc
        rcases Memory.mem_insert m a v c hc with rfl | hc
        · show k < a; omega
        · exact h3 c hc

/-- Every write keeps the canonical form. -/
theorem Memory.wf_set (m : Memory) (a : Nat) (v : Byte) (ha : a < 2 ^ 28) (h : m.wf = true) :
    (m.set a v).wf = true := by
  unfold Memory.set
  split
  · exact Memory.wf_erase m a h
  · rename_i hv; exact Memory.wf_insert m a v hv ha h

/-! ## What a translation depends on -/

theorem translate_congr {s t : State} (hc : t.cfg = s.cfg) (hm : t.mmu = s.mmu) (la : Word) :
    translate t la = translate s la := by simp only [translate, hc, hm]

theorem writeInhibited_congr {s t : State} (hc : t.cfg = s.cfg) (hm : t.mmu = s.mmu) (hp : t.pins = s.pins)
    (la : Word) : writeInhibited t la = writeInhibited s la := by
  simp only [writeInhibited, State.isMpu, translate, hc, hm, hp]

theorem execInhibited_congr {s t : State} (hc : t.cfg = s.cfg) (hm : t.mmu = s.mmu) (hp : t.pins = s.pins)
    (la : Word) : execInhibited t la = execInhibited s la := by
  simp only [execInhibited, State.isMpu, translate, hc, hm, hp]

theorem readMem_congr {s t : State} (hc : t.cfg = s.cfg) (hm : t.mmu = s.mmu) (hmem : t.mem = s.mem)
    (hl : t.late = s.late) (la : Word) : readMem t la = readMem s la := by
  simp only [readMem, busByte, translate, hc, hm, hmem, hl]

/-- With no read late a read takes the byte memory holds. -/
theorem readMem_inTime (s : State) (la : Word) (h : s.late = []) :
    readMem s la = s.mem.get (translate s la).toNat := by
  simp [readMem, busByte, h]

/-! ## Stores -/

/-- The status latches after an inhibited write of the given kind. -/
def inhibitedSys (k : WriteKind) (s : State) (la : Word) : SysStat :=
  { s.sys with
    wpTrap := true
    fatalSeen := (match k with | .data => s.sys.fatalSeen | .stack => true)
    trapLog := la
    trapPhys := (translate s la).extractLsb' 12 16 }

/-- A store in full: the cell written, or the trap recorded. -/
theorem writeMem_spec (k : WriteKind) (la : Word) (v : Byte) (s : State) :
    writeMem k la v s =
      { s with
        mem := if writeInhibited s la then s.mem else s.mem.set (translate s la).toNat v
        sys := if writeInhibited s la then inhibitedSys k s la else s.sys
        wpPending := s.wpPending || (writeInhibited s la && k == .data)
        fatal := s.fatal || (writeInhibited s la && k == .stack) } := by
  cases k <;> cases h : writeInhibited s la <;>
    simp [writeMem, h, inhibitedWrite, inhibitedSys, recordTrapAddr]

@[simp] theorem writeMem_cfg (k : WriteKind) (la : Word) (v : Byte) (s : State) : (writeMem k la v s).cfg = s.cfg := by rw [writeMem_spec]
@[simp] theorem writeMem_reg (k : WriteKind) (la : Word) (v : Byte) (s : State) : (writeMem k la v s).reg = s.reg := by rw [writeMem_spec]
@[simp] theorem writeMem_alt (k : WriteKind) (la : Word) (v : Byte) (s : State) : (writeMem k la v s).alt = s.alt := by rw [writeMem_spec]
@[simp] theorem writeMem_ix (k : WriteKind) (la : Word) (v : Byte) (s : State) : (writeMem k la v s).ix = s.ix := by rw [writeMem_spec]
@[simp] theorem writeMem_iy (k : WriteKind) (la : Word) (v : Byte) (s : State) : (writeMem k la v s).iy = s.iy := by rw [writeMem_spec]
@[simp] theorem writeMem_sp (k : WriteKind) (la : Word) (v : Byte) (s : State) : (writeMem k la v s).sp = s.sp := by rw [writeMem_spec]
@[simp] theorem writeMem_pc (k : WriteKind) (la : Word) (v : Byte) (s : State) : (writeMem k la v s).pc = s.pc := by rw [writeMem_spec]
@[simp] theorem writeMem_i (k : WriteKind) (la : Word) (v : Byte) (s : State) : (writeMem k la v s).i = s.i := by rw [writeMem_spec]
@[simp] theorem writeMem_r (k : WriteKind) (la : Word) (v : Byte) (s : State) : (writeMem k la v s).r = s.r := by rw [writeMem_spec]
@[simp] theorem writeMem_iff1 (k : WriteKind) (la : Word) (v : Byte) (s : State) : (writeMem k la v s).iff1 = s.iff1 := by rw [writeMem_spec]
@[simp] theorem writeMem_iff2 (k : WriteKind) (la : Word) (v : Byte) (s : State) : (writeMem k la v s).iff2 = s.iff2 := by rw [writeMem_spec]
@[simp] theorem writeMem_im (k : WriteKind) (la : Word) (v : Byte) (s : State) : (writeMem k la v s).im = s.im := by rw [writeMem_spec]
@[simp] theorem writeMem_run (k : WriteKind) (la : Word) (v : Byte) (s : State) : (writeMem k la v s).run = s.run := by rw [writeMem_spec]
@[simp] theorem writeMem_haltIntEn (k : WriteKind) (la : Word) (v : Byte) (s : State) : (writeMem k la v s).haltIntEn = s.haltIntEn := by rw [writeMem_spec]
@[simp] theorem writeMem_nmiLatch (k : WriteKind) (la : Word) (v : Byte) (s : State) : (writeMem k la v s).nmiLatch = s.nmiLatch := by rw [writeMem_spec]
@[simp] theorem writeMem_prefetched (k : WriteKind) (la : Word) (v : Byte) (s : State) : (writeMem k la v s).prefetched = s.prefetched := by rw [writeMem_spec]
@[simp] theorem writeMem_repeating (k : WriteKind) (la : Word) (v : Byte) (s : State) : (writeMem k la v s).repeating = s.repeating := by rw [writeMem_spec]
@[simp] theorem writeMem_shadow (k : WriteKind) (la : Word) (v : Byte) (s : State) : (writeMem k la v s).shadow = s.shadow := by rw [writeMem_spec]
@[simp] theorem writeMem_eiShadow (k : WriteKind) (la : Word) (v : Byte) (s : State) : (writeMem k la v s).eiShadow = s.eiShadow := by rw [writeMem_spec]
@[simp] theorem writeMem_intSeen (k : WriteKind) (la : Word) (v : Byte) (s : State) : (writeMem k la v s).intSeen = s.intSeen := by rw [writeMem_spec]
@[simp] theorem writeMem_mmu (k : WriteKind) (la : Word) (v : Byte) (s : State) : (writeMem k la v s).mmu = s.mmu := by rw [writeMem_spec]
@[simp] theorem writeMem_mmuBuf (k : WriteKind) (la : Word) (v : Byte) (s : State) : (writeMem k la v s).mmuBuf = s.mmuBuf := by rw [writeMem_spec]
@[simp] theorem writeMem_irq (k : WriteKind) (la : Word) (v : Byte) (s : State) : (writeMem k la v s).irq = s.irq := by rw [writeMem_spec]
@[simp] theorem writeMem_ius (k : WriteKind) (la : Word) (v : Byte) (s : State) : (writeMem k la v s).ius = s.ius := by rw [writeMem_spec]
@[simp] theorem writeMem_dma (k : WriteKind) (la : Word) (v : Byte) (s : State) : (writeMem k la v s).dma = s.dma := by rw [writeMem_spec]
@[simp] theorem writeMem_wdt (k : WriteKind) (la : Word) (v : Byte) (s : State) : (writeMem k la v s).wdt = s.wdt := by rw [writeMem_spec]
@[simp] theorem writeMem_rti (k : WriteKind) (la : Word) (v : Byte) (s : State) : (writeMem k la v s).rti = s.rti := by rw [writeMem_spec]
@[simp] theorem writeMem_pins (k : WriteKind) (la : Word) (v : Byte) (s : State) : (writeMem k la v s).pins = s.pins := by rw [writeMem_spec]
@[simp] theorem writeMem_ioIn (k : WriteKind) (la : Word) (v : Byte) (s : State) : (writeMem k la v s).ioIn = s.ioIn := by rw [writeMem_spec]
@[simp] theorem writeMem_busLog (k : WriteKind) (la : Word) (v : Byte) (s : State) : (writeMem k la v s).busLog = s.busLog := by rw [writeMem_spec]
@[simp] theorem writeMem_late (k : WriteKind) (la : Word) (v : Byte) (s : State) : (writeMem k la v s).late = s.late := by rw [writeMem_spec]
@[simp] theorem writeMem_sched (k : WriteKind) (la : Word) (v : Byte) (s : State) : (writeMem k la v s).sched = s.sched := by rw [writeMem_spec]
@[simp] theorem writeMem_free (k : WriteKind) (la : Word) (v : Byte) (s : State) : (writeMem k la v s).free = s.free := by rw [writeMem_spec]

@[simp] theorem translate_writeMem (k : WriteKind) (la x : Word) (v : Byte) (s : State) :
    translate (writeMem k la v s) x = translate s x := translate_congr (by simp) (by simp) x

@[simp] theorem writeInhibited_writeMem (k : WriteKind) (la x : Word) (v : Byte) (s : State) :
    writeInhibited (writeMem k la v s) x = writeInhibited s x :=
  writeInhibited_congr (by simp) (by simp) (by simp) x

/-- A stack write leaves no write-protect trap pending: it is fatal instead (R909). -/
theorem writeMem_stack_wpPending (la : Word) (v : Byte) (s : State) :
    (writeMem .stack la v s).wpPending = s.wpPending := by
  rw [writeMem_spec]; cases writeInhibited s la <;> cases s.wpPending <;> simp

/-- A data write is never fatal (R909). -/
theorem writeMem_data_fatal (la : Word) (v : Byte) (s : State) :
    (writeMem .data la v s).fatal = s.fatal := by
  rw [writeMem_spec]; cases writeInhibited s la <;> cases s.fatal <;> simp

/-- Every store keeps the canonical form. -/
theorem writeMem_wf (k : WriteKind) (la : Word) (v : Byte) (s : State) (h : s.mem.wf = true) :
    (writeMem k la v s).mem.wf = true := by
  rw [writeMem_spec]
  dsimp only
  split
  · exact h
  · exact Memory.wf_set _ _ _ (translate s la).isLt h

@[simp] theorem writeMem16_cfg (k : WriteKind) (la w : Word) (s : State) : (writeMem16 k la w s).cfg = s.cfg := by simp [writeMem16]
@[simp] theorem writeMem16_reg (k : WriteKind) (la w : Word) (s : State) : (writeMem16 k la w s).reg = s.reg := by simp [writeMem16]
@[simp] theorem writeMem16_alt (k : WriteKind) (la w : Word) (s : State) : (writeMem16 k la w s).alt = s.alt := by simp [writeMem16]
@[simp] theorem writeMem16_ix (k : WriteKind) (la w : Word) (s : State) : (writeMem16 k la w s).ix = s.ix := by simp [writeMem16]
@[simp] theorem writeMem16_iy (k : WriteKind) (la w : Word) (s : State) : (writeMem16 k la w s).iy = s.iy := by simp [writeMem16]
@[simp] theorem writeMem16_sp (k : WriteKind) (la w : Word) (s : State) : (writeMem16 k la w s).sp = s.sp := by simp [writeMem16]
@[simp] theorem writeMem16_pc (k : WriteKind) (la w : Word) (s : State) : (writeMem16 k la w s).pc = s.pc := by simp [writeMem16]
@[simp] theorem writeMem16_i (k : WriteKind) (la w : Word) (s : State) : (writeMem16 k la w s).i = s.i := by simp [writeMem16]
@[simp] theorem writeMem16_r (k : WriteKind) (la w : Word) (s : State) : (writeMem16 k la w s).r = s.r := by simp [writeMem16]
@[simp] theorem writeMem16_iff1 (k : WriteKind) (la w : Word) (s : State) : (writeMem16 k la w s).iff1 = s.iff1 := by simp [writeMem16]
@[simp] theorem writeMem16_iff2 (k : WriteKind) (la w : Word) (s : State) : (writeMem16 k la w s).iff2 = s.iff2 := by simp [writeMem16]
@[simp] theorem writeMem16_im (k : WriteKind) (la w : Word) (s : State) : (writeMem16 k la w s).im = s.im := by simp [writeMem16]
@[simp] theorem writeMem16_run (k : WriteKind) (la w : Word) (s : State) : (writeMem16 k la w s).run = s.run := by simp [writeMem16]
@[simp] theorem writeMem16_haltIntEn (k : WriteKind) (la w : Word) (s : State) : (writeMem16 k la w s).haltIntEn = s.haltIntEn := by simp [writeMem16]
@[simp] theorem writeMem16_nmiLatch (k : WriteKind) (la w : Word) (s : State) : (writeMem16 k la w s).nmiLatch = s.nmiLatch := by simp [writeMem16]
@[simp] theorem writeMem16_prefetched (k : WriteKind) (la w : Word) (s : State) : (writeMem16 k la w s).prefetched = s.prefetched := by simp [writeMem16]
@[simp] theorem writeMem16_repeating (k : WriteKind) (la w : Word) (s : State) : (writeMem16 k la w s).repeating = s.repeating := by simp [writeMem16]
@[simp] theorem writeMem16_shadow (k : WriteKind) (la w : Word) (s : State) : (writeMem16 k la w s).shadow = s.shadow := by simp [writeMem16]
@[simp] theorem writeMem16_eiShadow (k : WriteKind) (la w : Word) (s : State) : (writeMem16 k la w s).eiShadow = s.eiShadow := by simp [writeMem16]
@[simp] theorem writeMem16_intSeen (k : WriteKind) (la w : Word) (s : State) : (writeMem16 k la w s).intSeen = s.intSeen := by simp [writeMem16]
@[simp] theorem writeMem16_mmu (k : WriteKind) (la w : Word) (s : State) : (writeMem16 k la w s).mmu = s.mmu := by simp [writeMem16]
@[simp] theorem writeMem16_mmuBuf (k : WriteKind) (la w : Word) (s : State) : (writeMem16 k la w s).mmuBuf = s.mmuBuf := by simp [writeMem16]
@[simp] theorem writeMem16_irq (k : WriteKind) (la w : Word) (s : State) : (writeMem16 k la w s).irq = s.irq := by simp [writeMem16]
@[simp] theorem writeMem16_ius (k : WriteKind) (la w : Word) (s : State) : (writeMem16 k la w s).ius = s.ius := by simp [writeMem16]
@[simp] theorem writeMem16_dma (k : WriteKind) (la w : Word) (s : State) : (writeMem16 k la w s).dma = s.dma := by simp [writeMem16]
@[simp] theorem writeMem16_wdt (k : WriteKind) (la w : Word) (s : State) : (writeMem16 k la w s).wdt = s.wdt := by simp [writeMem16]
@[simp] theorem writeMem16_rti (k : WriteKind) (la w : Word) (s : State) : (writeMem16 k la w s).rti = s.rti := by simp [writeMem16]
@[simp] theorem writeMem16_pins (k : WriteKind) (la w : Word) (s : State) : (writeMem16 k la w s).pins = s.pins := by simp [writeMem16]
@[simp] theorem writeMem16_ioIn (k : WriteKind) (la w : Word) (s : State) : (writeMem16 k la w s).ioIn = s.ioIn := by simp [writeMem16]
@[simp] theorem writeMem16_busLog (k : WriteKind) (la w : Word) (s : State) : (writeMem16 k la w s).busLog = s.busLog := by simp [writeMem16]
@[simp] theorem writeMem16_late (k : WriteKind) (la w : Word) (s : State) : (writeMem16 k la w s).late = s.late := by simp [writeMem16]
@[simp] theorem writeMem16_sched (k : WriteKind) (la w : Word) (s : State) : (writeMem16 k la w s).sched = s.sched := by simp [writeMem16]
@[simp] theorem writeMem16_free (k : WriteKind) (la w : Word) (s : State) : (writeMem16 k la w s).free = s.free := by simp [writeMem16]

@[simp] theorem push16_cfg (w : Word) (s : State) : (push16 w s).cfg = s.cfg := by simp [push16]
@[simp] theorem push16_reg (w : Word) (s : State) : (push16 w s).reg = s.reg := by simp [push16]
@[simp] theorem push16_alt (w : Word) (s : State) : (push16 w s).alt = s.alt := by simp [push16]
@[simp] theorem push16_ix (w : Word) (s : State) : (push16 w s).ix = s.ix := by simp [push16]
@[simp] theorem push16_iy (w : Word) (s : State) : (push16 w s).iy = s.iy := by simp [push16]
@[simp] theorem push16_pc (w : Word) (s : State) : (push16 w s).pc = s.pc := by simp [push16]
@[simp] theorem push16_i (w : Word) (s : State) : (push16 w s).i = s.i := by simp [push16]
@[simp] theorem push16_r (w : Word) (s : State) : (push16 w s).r = s.r := by simp [push16]
@[simp] theorem push16_iff1 (w : Word) (s : State) : (push16 w s).iff1 = s.iff1 := by simp [push16]
@[simp] theorem push16_iff2 (w : Word) (s : State) : (push16 w s).iff2 = s.iff2 := by simp [push16]
@[simp] theorem push16_im (w : Word) (s : State) : (push16 w s).im = s.im := by simp [push16]
@[simp] theorem push16_run (w : Word) (s : State) : (push16 w s).run = s.run := by simp [push16]
@[simp] theorem push16_haltIntEn (w : Word) (s : State) : (push16 w s).haltIntEn = s.haltIntEn := by simp [push16]
@[simp] theorem push16_nmiLatch (w : Word) (s : State) : (push16 w s).nmiLatch = s.nmiLatch := by simp [push16]
@[simp] theorem push16_prefetched (w : Word) (s : State) : (push16 w s).prefetched = s.prefetched := by simp [push16]
@[simp] theorem push16_repeating (w : Word) (s : State) : (push16 w s).repeating = s.repeating := by simp [push16]
@[simp] theorem push16_shadow (w : Word) (s : State) : (push16 w s).shadow = s.shadow := by simp [push16]
@[simp] theorem push16_eiShadow (w : Word) (s : State) : (push16 w s).eiShadow = s.eiShadow := by simp [push16]
@[simp] theorem push16_intSeen (w : Word) (s : State) : (push16 w s).intSeen = s.intSeen := by simp [push16]
@[simp] theorem push16_mmu (w : Word) (s : State) : (push16 w s).mmu = s.mmu := by simp [push16]
@[simp] theorem push16_mmuBuf (w : Word) (s : State) : (push16 w s).mmuBuf = s.mmuBuf := by simp [push16]
@[simp] theorem push16_irq (w : Word) (s : State) : (push16 w s).irq = s.irq := by simp [push16]
@[simp] theorem push16_ius (w : Word) (s : State) : (push16 w s).ius = s.ius := by simp [push16]
@[simp] theorem push16_dma (w : Word) (s : State) : (push16 w s).dma = s.dma := by simp [push16]
@[simp] theorem push16_wdt (w : Word) (s : State) : (push16 w s).wdt = s.wdt := by simp [push16]
@[simp] theorem push16_rti (w : Word) (s : State) : (push16 w s).rti = s.rti := by simp [push16]
@[simp] theorem push16_pins (w : Word) (s : State) : (push16 w s).pins = s.pins := by simp [push16]
@[simp] theorem push16_ioIn (w : Word) (s : State) : (push16 w s).ioIn = s.ioIn := by simp [push16]
@[simp] theorem push16_busLog (w : Word) (s : State) : (push16 w s).busLog = s.busLog := by simp [push16]
@[simp] theorem push16_late (w : Word) (s : State) : (push16 w s).late = s.late := by simp [push16]
@[simp] theorem push16_sched (w : Word) (s : State) : (push16 w s).sched = s.sched := by simp [push16]
@[simp] theorem push16_free (w : Word) (s : State) : (push16 w s).free = s.free := by simp [push16]

@[simp] theorem push16_sp (w : Word) (s : State) : (push16 w s).sp = s.sp - 2#16 := rfl

@[simp] theorem push16_wpPending (w : Word) (s : State) : (push16 w s).wpPending = s.wpPending := by
  show (writeMem .stack _ _ (writeMem .stack _ _ s)).wpPending = s.wpPending
  rw [writeMem_stack_wpPending, writeMem_stack_wpPending]

theorem push16_wf (w : Word) (s : State) (h : s.mem.wf = true) : (push16 w s).mem.wf = true :=
  writeMem_wf _ _ _ _ (writeMem_wf _ _ _ _ h)

theorem writeMem16_wf (k : WriteKind) (la w : Word) (s : State) (h : s.mem.wf = true) :
    (writeMem16 k la w s).mem.wf = true :=
  writeMem_wf _ _ _ _ (writeMem_wf _ _ _ _ h)

theorem writeBytes_wf (la : Word) (vs : List Byte) (s : State) (h : s.mem.wf = true) :
    (writeBytes la vs s).mem.wf = true := by
  induction vs generalizing la s with
  | nil => exact h
  | cons v vs ih => exact ih _ _ (writeMem_wf _ _ _ _ h)

@[simp] theorem writeBytes_cfg (la : Word) (vs : List Byte) (s : State) :
    (writeBytes la vs s).cfg = s.cfg := by
  induction vs generalizing la s with
  | nil => rfl
  | cons v vs ih => exact (ih _ _).trans (by simp)
@[simp] theorem writeBytes_reg (la : Word) (vs : List Byte) (s : State) :
    (writeBytes la vs s).reg = s.reg := by
  induction vs generalizing la s with
  | nil => rfl
  | cons v vs ih => exact (ih _ _).trans (by simp)
@[simp] theorem writeBytes_alt (la : Word) (vs : List Byte) (s : State) :
    (writeBytes la vs s).alt = s.alt := by
  induction vs generalizing la s with
  | nil => rfl
  | cons v vs ih => exact (ih _ _).trans (by simp)
@[simp] theorem writeBytes_ix (la : Word) (vs : List Byte) (s : State) :
    (writeBytes la vs s).ix = s.ix := by
  induction vs generalizing la s with
  | nil => rfl
  | cons v vs ih => exact (ih _ _).trans (by simp)
@[simp] theorem writeBytes_iy (la : Word) (vs : List Byte) (s : State) :
    (writeBytes la vs s).iy = s.iy := by
  induction vs generalizing la s with
  | nil => rfl
  | cons v vs ih => exact (ih _ _).trans (by simp)
@[simp] theorem writeBytes_sp (la : Word) (vs : List Byte) (s : State) :
    (writeBytes la vs s).sp = s.sp := by
  induction vs generalizing la s with
  | nil => rfl
  | cons v vs ih => exact (ih _ _).trans (by simp)
@[simp] theorem writeBytes_pc (la : Word) (vs : List Byte) (s : State) :
    (writeBytes la vs s).pc = s.pc := by
  induction vs generalizing la s with
  | nil => rfl
  | cons v vs ih => exact (ih _ _).trans (by simp)
@[simp] theorem writeBytes_i (la : Word) (vs : List Byte) (s : State) :
    (writeBytes la vs s).i = s.i := by
  induction vs generalizing la s with
  | nil => rfl
  | cons v vs ih => exact (ih _ _).trans (by simp)
@[simp] theorem writeBytes_r (la : Word) (vs : List Byte) (s : State) :
    (writeBytes la vs s).r = s.r := by
  induction vs generalizing la s with
  | nil => rfl
  | cons v vs ih => exact (ih _ _).trans (by simp)
@[simp] theorem writeBytes_iff1 (la : Word) (vs : List Byte) (s : State) :
    (writeBytes la vs s).iff1 = s.iff1 := by
  induction vs generalizing la s with
  | nil => rfl
  | cons v vs ih => exact (ih _ _).trans (by simp)
@[simp] theorem writeBytes_iff2 (la : Word) (vs : List Byte) (s : State) :
    (writeBytes la vs s).iff2 = s.iff2 := by
  induction vs generalizing la s with
  | nil => rfl
  | cons v vs ih => exact (ih _ _).trans (by simp)
@[simp] theorem writeBytes_im (la : Word) (vs : List Byte) (s : State) :
    (writeBytes la vs s).im = s.im := by
  induction vs generalizing la s with
  | nil => rfl
  | cons v vs ih => exact (ih _ _).trans (by simp)
@[simp] theorem writeBytes_run (la : Word) (vs : List Byte) (s : State) :
    (writeBytes la vs s).run = s.run := by
  induction vs generalizing la s with
  | nil => rfl
  | cons v vs ih => exact (ih _ _).trans (by simp)
@[simp] theorem writeBytes_haltIntEn (la : Word) (vs : List Byte) (s : State) :
    (writeBytes la vs s).haltIntEn = s.haltIntEn := by
  induction vs generalizing la s with
  | nil => rfl
  | cons v vs ih => exact (ih _ _).trans (by simp)
@[simp] theorem writeBytes_nmiLatch (la : Word) (vs : List Byte) (s : State) :
    (writeBytes la vs s).nmiLatch = s.nmiLatch := by
  induction vs generalizing la s with
  | nil => rfl
  | cons v vs ih => exact (ih _ _).trans (by simp)
@[simp] theorem writeBytes_prefetched (la : Word) (vs : List Byte) (s : State) :
    (writeBytes la vs s).prefetched = s.prefetched := by
  induction vs generalizing la s with
  | nil => rfl
  | cons v vs ih => exact (ih _ _).trans (by simp)
@[simp] theorem writeBytes_repeating (la : Word) (vs : List Byte) (s : State) :
    (writeBytes la vs s).repeating = s.repeating := by
  induction vs generalizing la s with
  | nil => rfl
  | cons v vs ih => exact (ih _ _).trans (by simp)
@[simp] theorem writeBytes_shadow (la : Word) (vs : List Byte) (s : State) :
    (writeBytes la vs s).shadow = s.shadow := by
  induction vs generalizing la s with
  | nil => rfl
  | cons v vs ih => exact (ih _ _).trans (by simp)
@[simp] theorem writeBytes_eiShadow (la : Word) (vs : List Byte) (s : State) :
    (writeBytes la vs s).eiShadow = s.eiShadow := by
  induction vs generalizing la s with
  | nil => rfl
  | cons v vs ih => exact (ih _ _).trans (by simp)
@[simp] theorem writeBytes_intSeen (la : Word) (vs : List Byte) (s : State) :
    (writeBytes la vs s).intSeen = s.intSeen := by
  induction vs generalizing la s with
  | nil => rfl
  | cons v vs ih => exact (ih _ _).trans (by simp)
@[simp] theorem writeBytes_mmu (la : Word) (vs : List Byte) (s : State) :
    (writeBytes la vs s).mmu = s.mmu := by
  induction vs generalizing la s with
  | nil => rfl
  | cons v vs ih => exact (ih _ _).trans (by simp)
@[simp] theorem writeBytes_mmuBuf (la : Word) (vs : List Byte) (s : State) :
    (writeBytes la vs s).mmuBuf = s.mmuBuf := by
  induction vs generalizing la s with
  | nil => rfl
  | cons v vs ih => exact (ih _ _).trans (by simp)
@[simp] theorem writeBytes_irq (la : Word) (vs : List Byte) (s : State) :
    (writeBytes la vs s).irq = s.irq := by
  induction vs generalizing la s with
  | nil => rfl
  | cons v vs ih => exact (ih _ _).trans (by simp)
@[simp] theorem writeBytes_ius (la : Word) (vs : List Byte) (s : State) :
    (writeBytes la vs s).ius = s.ius := by
  induction vs generalizing la s with
  | nil => rfl
  | cons v vs ih => exact (ih _ _).trans (by simp)
@[simp] theorem writeBytes_dma (la : Word) (vs : List Byte) (s : State) :
    (writeBytes la vs s).dma = s.dma := by
  induction vs generalizing la s with
  | nil => rfl
  | cons v vs ih => exact (ih _ _).trans (by simp)
@[simp] theorem writeBytes_wdt (la : Word) (vs : List Byte) (s : State) :
    (writeBytes la vs s).wdt = s.wdt := by
  induction vs generalizing la s with
  | nil => rfl
  | cons v vs ih => exact (ih _ _).trans (by simp)
@[simp] theorem writeBytes_rti (la : Word) (vs : List Byte) (s : State) :
    (writeBytes la vs s).rti = s.rti := by
  induction vs generalizing la s with
  | nil => rfl
  | cons v vs ih => exact (ih _ _).trans (by simp)
@[simp] theorem writeBytes_pins (la : Word) (vs : List Byte) (s : State) :
    (writeBytes la vs s).pins = s.pins := by
  induction vs generalizing la s with
  | nil => rfl
  | cons v vs ih => exact (ih _ _).trans (by simp)
@[simp] theorem writeBytes_ioIn (la : Word) (vs : List Byte) (s : State) :
    (writeBytes la vs s).ioIn = s.ioIn := by
  induction vs generalizing la s with
  | nil => rfl
  | cons v vs ih => exact (ih _ _).trans (by simp)
@[simp] theorem writeBytes_busLog (la : Word) (vs : List Byte) (s : State) :
    (writeBytes la vs s).busLog = s.busLog := by
  induction vs generalizing la s with
  | nil => rfl
  | cons v vs ih => exact (ih _ _).trans (by simp)
@[simp] theorem writeBytes_late (la : Word) (vs : List Byte) (s : State) :
    (writeBytes la vs s).late = s.late := by
  induction vs generalizing la s with
  | nil => rfl
  | cons v vs ih => exact (ih _ _).trans (by simp)
@[simp] theorem writeBytes_sched (la : Word) (vs : List Byte) (s : State) :
    (writeBytes la vs s).sched = s.sched := by
  induction vs generalizing la s with
  | nil => rfl
  | cons v vs ih => exact (ih _ _).trans (by simp)
@[simp] theorem writeBytes_free (la : Word) (vs : List Byte) (s : State) :
    (writeBytes la vs s).free = s.free := by
  induction vs generalizing la s with
  | nil => rfl
  | cons v vs ih => exact (ih _ _).trans (by simp)

/-! ## Taking an exception -/

@[simp] theorem enterException_cfg (saved target : Word) (s : State) : (enterException saved target s).cfg = s.cfg := by simp [enterException]
@[simp] theorem enterException_reg (saved target : Word) (s : State) : (enterException saved target s).reg = s.reg := by simp [enterException]
@[simp] theorem enterException_alt (saved target : Word) (s : State) : (enterException saved target s).alt = s.alt := by simp [enterException]
@[simp] theorem enterException_ix (saved target : Word) (s : State) : (enterException saved target s).ix = s.ix := by simp [enterException]
@[simp] theorem enterException_iy (saved target : Word) (s : State) : (enterException saved target s).iy = s.iy := by simp [enterException]
@[simp] theorem enterException_i (saved target : Word) (s : State) : (enterException saved target s).i = s.i := by simp [enterException]
@[simp] theorem enterException_r (saved target : Word) (s : State) : (enterException saved target s).r = s.r := by simp [enterException]
@[simp] theorem enterException_iff1 (saved target : Word) (s : State) : (enterException saved target s).iff1 = s.iff1 := by simp [enterException]
@[simp] theorem enterException_iff2 (saved target : Word) (s : State) : (enterException saved target s).iff2 = s.iff2 := by simp [enterException]
@[simp] theorem enterException_im (saved target : Word) (s : State) : (enterException saved target s).im = s.im := by simp [enterException]
@[simp] theorem enterException_run (saved target : Word) (s : State) : (enterException saved target s).run = s.run := by simp [enterException]
@[simp] theorem enterException_haltIntEn (saved target : Word) (s : State) : (enterException saved target s).haltIntEn = s.haltIntEn := by simp [enterException]
@[simp] theorem enterException_nmiLatch (saved target : Word) (s : State) : (enterException saved target s).nmiLatch = s.nmiLatch := by simp [enterException]
@[simp] theorem enterException_shadow (saved target : Word) (s : State) : (enterException saved target s).shadow = s.shadow := by simp [enterException]
@[simp] theorem enterException_eiShadow (saved target : Word) (s : State) : (enterException saved target s).eiShadow = s.eiShadow := by simp [enterException]
@[simp] theorem enterException_intSeen (saved target : Word) (s : State) : (enterException saved target s).intSeen = s.intSeen := by simp [enterException]
@[simp] theorem enterException_mmu (saved target : Word) (s : State) : (enterException saved target s).mmu = s.mmu := by simp [enterException]
@[simp] theorem enterException_mmuBuf (saved target : Word) (s : State) : (enterException saved target s).mmuBuf = s.mmuBuf := by simp [enterException]
@[simp] theorem enterException_irq (saved target : Word) (s : State) : (enterException saved target s).irq = s.irq := by simp [enterException]
@[simp] theorem enterException_ius (saved target : Word) (s : State) : (enterException saved target s).ius = s.ius := by simp [enterException]
@[simp] theorem enterException_dma (saved target : Word) (s : State) : (enterException saved target s).dma = s.dma := by simp [enterException]
@[simp] theorem enterException_wdt (saved target : Word) (s : State) : (enterException saved target s).wdt = s.wdt := by simp [enterException]
@[simp] theorem enterException_rti (saved target : Word) (s : State) : (enterException saved target s).rti = s.rti := by simp [enterException]
@[simp] theorem enterException_pins (saved target : Word) (s : State) : (enterException saved target s).pins = s.pins := by simp [enterException]
@[simp] theorem enterException_ioIn (saved target : Word) (s : State) : (enterException saved target s).ioIn = s.ioIn := by simp [enterException]
@[simp] theorem enterException_busLog (saved target : Word) (s : State) : (enterException saved target s).busLog = s.busLog := by simp [enterException]
@[simp] theorem enterException_late (saved target : Word) (s : State) : (enterException saved target s).late = s.late := by simp [enterException]
@[simp] theorem enterException_sched (saved target : Word) (s : State) : (enterException saved target s).sched = s.sched := by simp [enterException]
@[simp] theorem enterException_free (saved target : Word) (s : State) : (enterException saved target s).free = s.free := by simp [enterException]

@[simp] theorem enterException_pc (saved target : Word) (s : State) :
    (enterException saved target s).pc = target := rfl
@[simp] theorem enterException_sp (saved target : Word) (s : State) :
    (enterException saved target s).sp = s.sp - 2#16 := rfl
@[simp] theorem enterException_prefetched (saved target : Word) (s : State) :
    (enterException saved target s).prefetched = none := by simp [enterException]
@[simp] theorem enterException_repeating (saved target : Word) (s : State) :
    (enterException saved target s).repeating = none := by simp [enterException]

theorem enterException_wf (saved target : Word) (s : State) (h : s.mem.wf = true) :
    (enterException saved target s).mem.wf = true := push16_wf saved (dropFetch s) h

/-! ## The user reset -/

@[simp] theorem userReset_cfg  (s : State) : (userReset s).cfg = s.cfg := rfl
@[simp] theorem userReset_reg  (s : State) : (userReset s).reg = s.reg := rfl
@[simp] theorem userReset_alt  (s : State) : (userReset s).alt = s.alt := rfl
@[simp] theorem userReset_ix  (s : State) : (userReset s).ix = s.ix := rfl
@[simp] theorem userReset_iy  (s : State) : (userReset s).iy = s.iy := rfl
@[simp] theorem userReset_sys  (s : State) : (userReset s).sys = s.sys := rfl
@[simp] theorem userReset_rti  (s : State) : (userReset s).rti = s.rti := rfl
@[simp] theorem userReset_pins  (s : State) : (userReset s).pins = s.pins := rfl
@[simp] theorem userReset_mem  (s : State) : (userReset s).mem = s.mem := rfl
@[simp] theorem userReset_ioIn  (s : State) : (userReset s).ioIn = s.ioIn := rfl
@[simp] theorem userReset_busLog  (s : State) : (userReset s).busLog = s.busLog := rfl
@[simp] theorem userReset_late  (s : State) : (userReset s).late = s.late := rfl
@[simp] theorem userReset_sched  (s : State) : (userReset s).sched = s.sched := rfl
@[simp] theorem userReset_free  (s : State) : (userReset s).free = s.free := rfl

/-- The state after reset is a fixed point of the user reset (R123). -/
theorem userReset_resetOf (c : Config) : userReset (State.resetOf c) = State.resetOf c := rfl

/-- Memory at reset has the canonical form. -/
theorem reset_mem_wf : State.reset.mem.wf = true := rfl

end Sys2Proof.Machine
end

