-- ==== Sys2Proof/Laws/Cut.lean ====
section
/-! SUPPORT. What an action cut short leaves, said once: the registers an instruction updates, the memory it had
written, and the relation of `act execCut` to `machineStep`. -/

namespace Sys2Proof.Machine

/-! ## One register that a reset keeps -/

/-- What one register holds. -/
inductive Held where
  | byte (v : Byte)
  | word (w : Word)
  | flags (f : Flags)
deriving DecidableEq, Repr

/-- The contents of a register. -/
def look (p : Spot) (s : State) : Held :=
  match p with
  | .reg r => .byte (getR r s)
  | .flags => .flags s.reg.f
  | .idx y => .word (getIdx y s)
  | .alt r => .byte (getR r (swapBanks s))
  | .altFlags => .flags s.alt.f

theorem look_congr {s t : State} (hr : t.reg = s.reg) (ha : t.alt = s.alt) (hx : t.ix = s.ix) (hy : t.iy = s.iy)
    (p : Spot) : look p t = look p s := by
  cases p with
  | reg r => cases r <;> simp [look, getR, hr]
  | flags => simp [look, hr]
  | idx y => cases y <;> simp [look, getIdx, hx, hy]
  | alt r => cases r <;> simp [look, getR, swapBanks, ha]
  | altFlags => simp [look, ha]

theorem look_setR (p : Spot) (r : R8) (v : Byte) (s : State) (h : p ≠ .reg r) : look p (setR r v s) = look p s := by
  cases p with
  | reg q => simp only [look, getR_setR_ne r q v s (fun e => h (e ▸ rfl))]
  | flags => simp [look]
  | idx y => cases y <;> simp [look, getIdx]
  | alt q => cases q <;> simp [look, getR, swapBanks]
  | altFlags => simp [look]

theorem look_setIdx (p : Spot) (y : Idx) (w : Word) (s : State) (h : p ≠ .idx y) :
    look p (setIdx y w s) = look p s := by
  cases p with
  | idx z => cases y <;> cases z <;> first | exact absurd rfl h | rfl
  | reg q => cases y <;> cases q <;> rfl
  | flags => cases y <;> rfl
  | alt q => cases y <;> cases q <;> rfl
  | altFlags => cases y <;> rfl

theorem look_setPair (p : Spot) (q : Pair) (w : Word) (s : State) (h : p ∉ pairSpots q) :
    look p (setPair q w s) = look p s := by
  cases q <;> simp only [pairSpots, List.mem_cons, List.not_mem_nil, or_false, not_or] at h <;> cases p with
  | reg r => cases r <;> first | rfl | simp at h
  | flags => first | rfl | simp at h
  | idx y => cases y <;> first | rfl | simp at h
  | alt r => cases r <;> rfl
  | altFlags => rfl

theorem look_writeFlags (p : Spot) (f : Flags) (s : State) (h : p ≠ .flags) :
    look p (writeFlags f s) = look p s := by
  cases p with
  | reg r => cases r <;> rfl
  | flags => exact absurd rfl h
  | idx y => cases y <;> rfl
  | alt r => cases r <;> rfl
  | altFlags => rfl

@[simp] theorem look_advance (p : Spot) (k : Word) (s : State) : look p (advance k s) = look p s :=
  look_congr rfl rfl rfl rfl p
@[simp] theorem look_setPc (p : Spot) (w : Word) (s : State) : look p (s.setPc w) = look p s :=
  look_congr rfl rfl rfl rfl p
@[simp] theorem look_emit (p : Spot) (e : BusEvent) (s : State) : look p (s.emit e) = look p s :=
  look_congr rfl rfl rfl rfl p
@[simp] theorem look_dropStack (p : Spot) (s : State) : look p (dropStack s) = look p s :=
  look_congr rfl rfl rfl rfl p
@[simp] theorem look_writeMem (p : Spot) (k : WriteKind) (la : Word) (v : Byte) (s : State) :
    look p (writeMem k la v s) = look p s := look_congr (by simp) (by simp) (by simp) (by simp) p
@[simp] theorem look_writeMem16 (p : Spot) (k : WriteKind) (la w : Word) (s : State) :
    look p (writeMem16 k la w s) = look p s := look_congr (by simp) (by simp) (by simp) (by simp) p
@[simp] theorem look_writeBytes (p : Spot) (la : Word) (vs : List Byte) (s : State) :
    look p (writeBytes la vs s) = look p s := look_congr (by simp) (by simp) (by simp) (by simp) p
@[simp] theorem look_push16 (p : Spot) (w : Word) (s : State) : look p (push16 w s) = look p s :=
  look_congr (by simp) (by simp) (by simp) (by simp) p
@[simp] theorem look_enterException (p : Spot) (a b : Word) (s : State) :
    look p (enterException a b s) = look p s := look_congr (by simp) (by simp) (by simp) (by simp) p
@[simp] theorem look_ioWrite (p : Spot) (a : Word) (v : Byte) (s : State) : look p (ioWrite a v s) = look p s :=
  look_congr rfl rfl rfl rfl p
@[simp] theorem look_ioReadDone (p : Spot) (a : Word) (s : State) : look p (ioReadDone a s) = look p s :=
  look_congr (by simp) (by simp) (by simp) (by simp) p
@[simp] theorem look_finishIteration (p : Spot) (b : Bool) (i : Instr) (s : State) :
    look p (finishIteration b i s) = look p s := by cases b <;> exact look_congr rfl rfl rfl rfl p
@[simp] theorem look_illegalTrap2 (p : Spot) (s : State) : look p (illegalTrap2 s) = look p s := by
  refine (look_enterException p _ _ _).trans ((look_emit p _ _).trans ?_)
  unfold illegalIffs
  split <;> split <;> exact look_congr rfl rfl rfl rfl p
@[simp] theorem look_retiPulse (p : Spot) (s : State) : look p (retiPulse s) = look p s := by
  unfold retiPulse
  split
  · exact look_emit p _ s
  · split <;> exact look_congr rfl rfl rfl rfl p
@[simp] theorem look_wdArm (p : Spot) (s : State) : look p (wdArm s) = look p s := by
  unfold wdArm; split
  · dsimp only; split <;> exact look_congr rfl rfl rfl rfl p
  · rfl
@[simp] theorem look_wdRes (p : Spot) (s : State) : look p (wdRes s) = look p s := by
  unfold wdRes; split <;> exact look_congr rfl rfl rfl rfl p
theorem look_writeAcc (p : Spot) (v : Byte) (f : Flags) (s : State) (ha : p ≠ .reg .a) (hf : p ≠ .flags) :
    look p (writeAcc v f s) = look p s :=
  (look_writeFlags p f _ hf).trans (look_setR p .a v s ha)

/-- DAA writes A and F. -/
theorem look_execDaa (p : Spot) (s t : State) (e : execDaa s = .next t) (ha : p ≠ .reg .a) (hf : p ≠ .flags) :
    look p t = look p s := by
  unfold execDaa at e
  split at e
  · injection e with e; subst e; exact (look_writeAcc p _ _ _ ha hf).trans (look_congr rfl rfl rfl rfl p)
  · split at e <;> injection e with e <;> subst e <;>
      exact (look_writeAcc p _ _ _ ha hf).trans (look_congr rfl rfl rfl rfl p)

/-- The two meanings of an MPU instruction, by version. -/
theorem look_mpuOrCpu (p : Spot) (f g : State → State) (s t : State) (e : mpuOrCpu f g s = .next t)
    (hf : s.isMpu = true → ∀ u, look p (f u) = look p u) (hg : ∀ u, look p (g u) = look p u) :
    look p t = look p s := by
  unfold mpuOrCpu onCpu at e
  cases hv : s.cfg.version <;> simp only [hv] at e <;> injection e with e <;> subst e
  · split
    · exact look_illegalTrap2 p s
    · exact (hg _).trans (look_advance p _ s)
  · exact (hf (by simp [State.isMpu, hv]) _).trans (look_advance p _ s)

theorem look_passTable (p : Spot) (s : State) (h : p ∉ pairSpots .hl) : look p (passTable s) = look p s :=
  look_setPair p .hl _ s h
@[simp] theorem look_withShadow (p : Spot) (s : State) : look p (withShadow s) = look p s :=
  look_congr rfl rfl rfl rfl p
@[simp] theorem look_swapContexts (p : Spot) (s : State) : look p (swapContexts s) = look p s :=
  look_congr rfl rfl rfl rfl p
@[simp] theorem look_clearStatus (p : Spot) (b : Bool) (s : State) : look p (clearStatus b s) = look p s :=
  look_congr rfl rfl rfl rfl p
@[simp] theorem look_mmuBuf (p : Spot) (m : MmuSet) (s : State) : look p { s with mmuBuf := m } = look p s :=
  look_congr rfl rfl rfl rfl p
@[simp] theorem look_free (p : Spot) (n : Nat) (s : State) : look p { s with free := n } = look p s :=
  look_congr rfl rfl rfl rfl p
@[simp] theorem look_storeAbsent (p : Spot) (s : State) : look p (storeAbsent s) = look p s := by
  rw [storeAbsent, look_free, look_writeBytes]

/-- A block instruction of the MPU writes HL, and in the CPU version nothing. -/
theorem look_mpuBlock (p : Spot) (f g : State → State) (s t : State) (e : mpuOrCpu f g s = .next t)
    (h : p ∉ if s.isMpu then pairSpots .hl else []) (hf : ∀ u, p ∉ pairSpots .hl → look p (f u) = look p u)
    (hg : ∀ u, look p (g u) = look p u) : look p t = look p s :=
  look_mpuOrCpu p f g s t e (fun hm u => hf u (by rw [hm] at h; exact h)) hg

/-- What `exec` writes of the registers that a reset keeps is among those `updates` lists (R1000). -/
theorem exec_updates (i : Instr) (s t : State) (p : Spot) (e : exec i s = .next t) (h : p ∉ updates s.isMpu i) :
    look p t = look p s := by
  cases i <;>
    simp only [updates, List.mem_cons, List.mem_append, List.not_mem_nil, or_false, not_or, not_false_iff] at h <;>
    (try injection e with e) <;>
    (try subst e) <;>
    (try (simp [accAdd, accAdc, accSub, accSbc, accAnd, accXor, accOr, accCp, accTst, look_writeAcc, look_writeFlags,
      look_setR, look_setPair, look_setIdx, incAt, decAt, shiftReg, shiftAt, rotateAcc, rotateDigit, testBit,
      loadSpecial, callTo, returnFrom, transferStep, searchStep, inputReg, inputStep, outputStep, otimStep, moveHl,
      apply_ite (look p), *]; done)) <;>
    (try (exact look_congr rfl rfl rfl rfl p))
  case exAfAf => cases p <;> first | rfl | (rename_i r; cases r <;> first | rfl | simp at h) | simp at h
  case exx => cases p <;> first | rfl | (rename_i r; cases r <;> first | rfl | simp [pairSpots] at h)
  case daa => exact look_execDaa p s t e h.1 h.2
  case swap =>
    simp only [exec, execSwap] at e
    exact look_mpuOrCpu p _ _ s t e (fun _ u => look_congr rfl rfl rfl rfl p) (fun _ => rfl)
  case wdarm =>
    simp only [exec, execWdarm] at e
    exact look_mpuOrCpu p _ _ s t e (fun _ u => look_wdArm p u) (fun _ => rfl)
  case wdres =>
    simp only [exec, execWdres] at e
    exact look_mpuOrCpu p _ _ s t e (fun _ u => look_wdRes p u) (fun _ => rfl)
  case addIxXx | addIyYy =>
    exact (look_writeFlags p _ _ h.1).trans
      ((look_setPair p _ _ _ (by simp [pairSpots, h.2])).trans (look_advance p _ s))
  case ldmMmu | ldmMmuh | ldmsMmu =>
    simp only [exec, execLdmMmu, execLdmMmuh, execLdmsMmu] at e
    exact look_mpuBlock p _ _ s t e h (fun u hp => by simp [look_passTable, hp]) (fun _ => rfl)
  case ldmFromMmu | ldmFromMmuh =>
    simp only [exec, execLdmFromMmu, execLdmFromMmuh] at e
    exact look_mpuBlock p _ _ s t e h (fun u hp => by simp [look_passTable, hp]) (fun u => look_storeAbsent p u)
  case ldmFromSys =>
    simp only [exec, execLdmFromSys] at e
    exact look_mpuBlock p _ _ s t e h (fun u hp => by simp [readStatus, look_passTable, hp])
      (fun u => look_storeAbsent p u)
  case otim | otimr | otdm | otdmr =>
    obtain ⟨⟨h1, h2⟩, h3⟩ := h
    simp only [pairSpots, List.mem_cons, List.not_mem_nil, or_false, not_or] at h2
    simp [otimStep, moveHl, look_writeFlags, look_setPair, look_setR, *]

/-! ## Registers with free values -/

/-- Only the registers a reset keeps, and the index of the next free value, change. -/
def RegistersOnly (s t : State) : Prop :=
  t = { s with reg := t.reg, alt := t.alt, ix := t.ix, iy := t.iy, free := t.free }

theorem RegistersOnly.refl (s : State) : RegistersOnly s s := rfl

theorem RegistersOnly.trans {s t u : State} (h : RegistersOnly s t) (k : RegistersOnly t u) : RegistersOnly s u := by
  unfold RegistersOnly at *
  rw [k, h]

theorem takeSpot_registers (p : Spot) (src s : State) : RegistersOnly s (takeSpot p src s) := by
  cases p with
  | reg r => cases r <;> rfl
  | flags => rfl
  | idx y => cases y <;> rfl
  | alt r => cases r <;> rfl
  | altFlags => rfl

/-- The register copied holds what it holds in the other state. -/
theorem look_takeSpot (p : Spot) (src s : State) : look p (takeSpot p src s) = look p src := by
  cases p with
  | reg r => cases r <;> rfl
  | flags => rfl
  | idx y => cases y <;> rfl
  | alt r => cases r <;> rfl
  | altFlags => rfl

theorem look_takeSpot_ne (p q : Spot) (src s : State) (h : p ≠ q) : look p (takeSpot q src s) = look p s := by
  cases q with
  | reg r => exact look_setR p r _ s h
  | flags =>
    cases p with
    | reg r => cases r <;> rfl
    | flags => exact absurd rfl h
    | idx y => cases y <;> rfl
    | alt r => cases r <;> rfl
    | altFlags => rfl
  | idx y => exact look_setIdx p y _ s h
  | alt r =>
    cases p with
    | reg q => cases r <;> cases q <;> rfl
    | flags => cases r <;> rfl
    | idx y => cases r <;> cases y <;> rfl
    | alt q => cases r <;> cases q <;> first | exact absurd rfl h | rfl
    | altFlags => cases r <;> rfl
  | altFlags =>
    cases p with
    | reg r => cases r <;> rfl
    | flags => rfl
    | idx y => cases y <;> rfl
    | alt r => cases r <;> rfl
    | altFlags => exact absurd rfl h

theorem spoil_registers (ps : List Spot) (s : State) : RegistersOnly s (spoil ps s) := by
  have h : ∀ (ps : List Spot) (src u : State), RegistersOnly u (ps.foldl (fun t p => takeSpot p src t) u) := by
    intro ps src
    induction ps with
    | nil => exact RegistersOnly.refl
    | cons p ps ih => exact fun u => (takeSpot_registers p src u).trans (ih _)
  exact (h ps (freeRegisters s) s).trans rfl

/-- A register that is not listed keeps its value. -/
theorem look_spoil (p : Spot) (ps : List Spot) (s : State) (h : p ∉ ps) : look p (spoil ps s) = look p s := by
  have k : ∀ (ps : List Spot) (src u : State), p ∉ ps →
      look p (ps.foldl (fun t p => takeSpot p src t) u) = look p u := by
    intro ps src
    induction ps with
    | nil => exact fun _ _ => rfl
    | cons q ps ih =>
      intro u hq
      simp only [List.mem_cons, not_or] at hq
      exact (ih _ hq.2).trans (look_takeSpot_ne p q src u hq.1)
  exact (look_congr rfl rfl rfl rfl p).trans (k ps (freeRegisters s) s h)

theorem mixSpot_registers (src s : State) (p : Spot) : RegistersOnly s (mixSpot src s p) :=
  RegistersOnly.trans (t := { s with free := s.free + 1 }) rfl (takeSpot_registers p _ _)

theorem look_mixSpot_ne (p q : Spot) (src s : State) (h : p ≠ q) : look p (mixSpot src s q) = look p s :=
  (look_takeSpot_ne p q _ _ h).trans (look_congr rfl rfl rfl rfl p)

/-- A register mixed holds what it held or what the other state holds. -/
theorem look_mixSpot (p : Spot) (src s : State) :
    look p (mixSpot src s p) = look p src ∨ look p (mixSpot src s p) = look p s := by
  unfold mixSpot
  rw [look_takeSpot]
  split
  · exact .inl rfl
  · exact .inr rfl

/-- What mixing registers can do: nothing but the registers and the index of the next free value changes. -/
theorem mixSpots_registers (ps : List Spot) (src s : State) : RegistersOnly s (mixSpots ps src s) := by
  unfold mixSpots
  induction ps generalizing s with
  | nil => rfl
  | cons p ps ih => exact (mixSpot_registers src s p).trans (ih _)

/-- A register that is not listed is not mixed. -/
theorem look_mixSpots (p : Spot) (ps : List Spot) (src s : State) (h : p ∉ ps) :
    look p (mixSpots ps src s) = look p s := by
  unfold mixSpots
  induction ps generalizing s with
  | nil => rfl
  | cons q ps ih =>
    simp only [List.mem_cons, not_or] at h
    exact (ih _ h.2).trans (look_mixSpot_ne p q src s h.1)

/-- An instruction cut short and the whole instruction differ in the registers it updates. -/
theorem execCut_next (i : Instr) (s u : State) (e : exec i s = .next u) :
    ∃ v, execCut i s = .next v ∧ RegistersOnly u v ∧ ∀ p, p ∉ updates s.isMpu i → look p v = look p s := by
  refine ⟨spoil (updates s.isMpu i) u, by simp only [execCut, e], spoil_registers _ u, fun p hp => ?_⟩
  exact (look_spoil p _ u hp).trans (exec_updates i s u p e hp)

/-- An action cut short and the whole action differ, before the writes are looked at, in registers only. -/
theorem plan_execCut (p : Plan) (u : State) (e : p.result exec = .next u) :
    ∃ v, p.result execCut = .next v ∧ RegistersOnly u v := by
  cases p with
  | become t => exact ⟨t, rfl, by injection e with e; subst e; rfl⟩
  | run i s =>
    obtain ⟨v, hv, hr, _⟩ := execCut_next i s u e
    exact ⟨v, hv, hr⟩

/-! ## Writes done and not done -/

/-- A byte is the one copied if its address is listed, and else the one that stood there. -/
theorem copyBytes_get (src : Memory) (as : List Nat) (m : Memory) (pa : Nat) :
    (copyBytes src as m).get pa = if pa ∈ as then src.get pa else m.get pa := by
  unfold copyBytes
  induction as generalizing m with
  | nil => simp
  | cons a as ih =>
    rw [List.foldl_cons, ih, Memory.get_set]
    by_cases h : pa ∈ as
    · simp [h]
    · by_cases ha : pa = a
      · simp [ha]
      · simp [ha]

theorem copyBytes_wf (src : Memory) (as : List Nat) (m : Memory) (hm : m.wf = true) (ha : ∀ a ∈ as, a < 2 ^ 28) :
    (copyBytes src as m).wf = true := by
  unfold copyBytes
  induction as generalizing m with
  | nil => exact hm
  | cons a as ih =>
    exact ih _ (Memory.wf_set _ _ _ (ha a (List.mem_cons_self ..)) hm) fun b hb => ha b (List.mem_cons_of_mem a hb)

theorem physical_lt (s : State) (las : List Word) (a : Nat) (h : a ∈ physical s las) : a < 2 ^ 28 := by
  obtain ⟨la, _, rfl⟩ := List.mem_map.1 h
  exact (translate s la).isLt

/-- A transaction that leads its action has happened if any memory write has (R214). -/
theorem happened_leads (n w : Nat) (s t : State) (e : BusEvent) (he : e ∈ newEvents s t) (hl : e.leads = true)
    (h : 0 < writesBefore n s t) : happened n w s t e = true := by
  have : (newEvents s t).any BusEvent.leads = true := List.any_eq_true.2 ⟨e, he, hl⟩
  simp only [writesBefore, this, if_true] at h
  simp only [happened, hl, if_true, decide_eq_true_eq]
  omega

/-! ## The status latches of an action cut short -/

/-- What the status latches of an action cut short can be: those of the action; before its first transaction, those
before it; and in LDM (HL),SYS, before its pulse, those that are not cleared yet. -/
theorem cutSys_cases (n : Nat) (las : List Word) (s t : State) :
    cutSys n las s t = t.sys ∨ (n = 0 ∧ cutSys n las s t = s.sys) ∨
      ((newEvents s t).contains .extStatRd = true ∧ writesBefore n s t ≤ las.length ∧
        cutSys n las s t = unclearedSys (writesBefore n s t) las s t) := by
  unfold cutSys
  dsimp only
  split
  · split
    · exact .inr (.inr ⟨‹_›, by omega, rfl⟩)
    · exact .inl rfl
  · split
    · rename_i h; exact .inr (.inl ⟨h.1, rfl⟩)
    · exact .inl rfl

/-- Once a transaction of the action has happened, what a trap has recorded survives the cut: the Trap Address is that
of the action, and its Trap Status bits too, but where LDM (HL),SYS clears them (R908, R1003). -/
theorem cutSys_kept (n : Nat) (las : List Word) (s t : State) (h : 0 < n) :
    (cutSys n las s t).trapLog = t.sys.trapLog ∧ (cutSys n las s t).trapPhys = t.sys.trapPhys ∧
      ((newEvents s t).contains .extStatRd = false → cutSys n las s t = t.sys) := by
  obtain e | ⟨e, _⟩ | ⟨e, _, e'⟩ := cutSys_cases n las s t
  · simp [e]
  · omega
  · rw [e']
    exact ⟨rfl, rfl, fun c => absurd (c.symm.trans e) (by simp)⟩

/-! ## Registers cleared during an action -/

/-- An action that makes no transaction has none before `clearb`, whatever place is given. -/
theorem clearedDuring_none (n : Nat) (las las' : List Word) (us : List Spot) (c s t u : State)
    (h : transactions las s t = 0) : clearedDuring n las las' us c s t u = clearedDuring 0 las las' us c s t u := by
  simp only [clearedDuring, h, Nat.min_zero]

/-- Before any transaction the rest is all of the action over the registers as they are then. -/
theorem clearedDuring_first (las las' : List Word) (us : List Spot) (c s t u : State) (pa : Nat) :
    (clearedDuring 0 las las' us c s t u).mem.get pa =
      if pa ∈ physical s las' then u.mem.get pa else s.mem.get pa := by
  rw [clearedDuring, mixSpots_registers]
  simp [copyBytes_get, physical, writesBefore]

/-- A conditional call that has begun its push goes on with it (R214). -/
theorem clearedDuring_decided (n : Nat) (las las' : List Word) (us : List Spot) (c s t u : State) (pa : Nat)
    (hn : 0 < n) (ht : transactions las s t ≠ 0) (hu : transactions las' s u ≠ transactions las s t) :
    (clearedDuring n las las' us c s t u).mem.get pa =
      if pa ∈ physical s las then t.mem.get pa else s.mem.get pa := by
  have hm : 0 < min n (transactions las s t) := by omega
  rw [clearedDuring, mixSpots_registers]
  simp only [hm, hu, decide_true, Bool.true_and, bne_iff_ne, ne_eq, not_false_eq_true, if_true, copyBytes_get]
  generalize writesBefore _ s t = k
  have e : pa ∈ physical s las ↔ pa ∈ physical s (las.drop k) ∨ pa ∈ physical s (las.take k) := by
    conv => lhs; rw [← List.take_append_drop k las]
    simp only [physical, List.map_append, List.mem_append]
    exact or_comm
  by_cases h1 : pa ∈ physical s (las.drop k) <;> by_cases h2 : pa ∈ physical s (las.take k) <;> simp [e, h1, h2]

end Sys2Proof.Machine
end

