-- ==== Sys2Proof/Laws/Events.lean ====
section
/-! SUPPORT. An action of the machine records at most one event, so that the order of its transactions (R214) is that of
its memory writes with this event before or after them. -/

namespace Sys2Proof.Machine

/-- At most one event is recorded from the one state to the other. -/
def OneEvent (s t : State) : Prop := t.busLog = s.busLog ∨ ∃ e, t.busLog = e :: s.busLog

theorem oneEvent_emit (e : BusEvent) {s t : State} (h : t.busLog = e :: s.busLog) : OneEvent s t := .inr ⟨e, h⟩
theorem oneEvent_none {s t : State} (h : t.busLog = s.busLog) : OneEvent s t := .inl h

theorem ioReadDone_log (port : Word) (s : State) :
    (ioReadDone port s).busLog = .ioRead port (ioAnswer s) :: s.busLog := by
  unfold ioReadDone ioAnswer
  split <;> simp only [*]

theorem finishIteration_busLog (b : Bool) (i : Instr) (s : State) : (finishIteration b i s).busLog = s.busLog := by
  cases b <;> rfl

theorem retiPulse_log (s : State) : (retiPulse s).busLog = .retiTran :: s.busLog := by
  unfold retiPulse
  split
  · rfl
  · split <;> rfl

theorem illegalTrap2_log (s : State) : (illegalTrap2 s).busLog = .illegalAck2 :: s.busLog := by
  simp only [illegalTrap2, enterException, setPc_busLog, push16_busLog, dropFetch_busLog, State.emit]
  unfold illegalIffs
  split <;> split <;> rfl

theorem execDaa_log (s t : State) (e : execDaa s = .next t) : t.busLog = s.busLog := by
  unfold execDaa at e
  split at e
  · injection e with e; subst e; rfl
  · split at e <;> injection e with e <;> subst e <;> rfl

theorem wdArm_log (s : State) : (wdArm s).busLog = s.busLog := by
  unfold wdArm
  split
  · dsimp only
    split <;> rfl
  · rfl

theorem wdRes_log (s : State) : (wdRes s).busLog = s.busLog := by
  unfold wdRes
  split <;> rfl

theorem oneEvent_mpuOrCpu (f g : State → State) (s t : State) (e : mpuOrCpu f g s = .next t)
    (hf : ∀ u, OneEvent u (f u)) (hg : ∀ u, (g u).busLog = u.busLog) : OneEvent s t := by
  unfold mpuOrCpu onCpu at e
  cases hv : s.cfg.version <;> cases ho : s.cfg.mpuOnCpu <;> simp only [hv, ho] at e <;> injection e with e <;> subst e
  · exact oneEvent_emit _ (illegalTrap2_log s)
  · exact oneEvent_none (hg (advance 2#16 s))
  · exact hf (advance 2#16 s)
  · exact hf (advance 2#16 s)

theorem storeAbsent_busLog (s : State) : (storeAbsent s).busLog = s.busLog := by
  rw [storeAbsent, writeBytes_busLog]

theorem exec_oneEvent (i : Instr) (s t : State) (e : exec i s = .next t) : OneEvent s t := by
  cases i
  case daa => exact oneEvent_none (execDaa_log s t e)
  case wdarm => exact oneEvent_mpuOrCpu wdArm id s t e (fun u => oneEvent_none (wdArm_log u)) (fun _ => rfl)
  case wdres => exact oneEvent_mpuOrCpu wdRes id s t e (fun u => oneEvent_none (wdRes_log u)) (fun _ => rfl)
  case ldmMmu | ldmMmuh | ldmsMmu | swap =>
    simp only [exec, execLdmMmu, execLdmMmuh, execLdmsMmu, execSwap] at e
    exact oneEvent_mpuOrCpu _ _ s t e (fun _ => oneEvent_none rfl) (fun _ => rfl)
  case ldmFromMmu | ldmFromMmuh =>
    simp only [exec, execLdmFromMmu, execLdmFromMmuh] at e
    exact oneEvent_mpuOrCpu _ _ s t e (fun u => oneEvent_none (by simp [withShadow, passTable])) storeAbsent_busLog
  case ldmFromSys =>
    simp only [exec, execLdmFromSys] at e
    exact oneEvent_mpuOrCpu _ _ s t e
      (fun u => oneEvent_emit .extStatRd (by simp [withShadow, readStatus, passTable, clearStatus, State.emit]))
      storeAbsent_busLog
  all_goals injection e with e
  all_goals subst e
  case reti => exact oneEvent_emit _ (retiPulse_log _)
  case inAN n => exact .inr ⟨_, (setR_busLog _ _ _).trans (ioReadDone_log (portAn n s) (advance 2#16 s))⟩
  case inRC r => exact .inr ⟨_, (setR_busLog r _ _).trans (ioReadDone_log (regBc s) (advance 2#16 s))⟩
  case in0RN r n => exact .inr ⟨_, (setR_busLog r _ _).trans (ioReadDone_log (portZero n) (advance 3#16 s))⟩
  case tstioN n => exact .inr ⟨_, ioReadDone_log (portZero s.reg.c) (advance 3#16 s)⟩
  case ini | inir | ind | indr =>
    refine .inr ⟨.ioRead (regBc s) (ioAnswer s), ?_⟩
    simp only [inputStep, moveHl, finishIteration_busLog, advance_busLog, writeFlags_busLog, setPair_busLog,
      setR_busLog, writeMem_busLog, ioReadDone_log]
  case otir | otdr | otimr | otdmr => exact .inr ⟨_, finishIteration_busLog _ _ _⟩
  case jpCcMn | jrCcE | djnz | retCc => exact oneEvent_none (by split <;> rfl)
  case callCcMn => exact oneEvent_none (by split <;> simp [callTo])
  all_goals first | exact oneEvent_none rfl | exact .inr ⟨_, rfl⟩ | skip
  all_goals
    refine oneEvent_none ?_
    simp [incAt, decAt, shiftReg, shiftAt, rotateDigit, transferStep, searchStep, callTo,
      finishIteration_busLog]

/-- What one action can record: an event it becomes a state with, or none before its instruction. -/
def Plan.OneEvent (s : State) : Plan → Prop
  | .become t => Machine.OneEvent s t
  | .run _ t => t.busLog = s.busLog

theorem illegalTrap3_log (s : State) : (illegalTrap3 s).busLog = .illegalAck3 :: s.busLog := by
  simp only [illegalTrap3, enterException, setPc_busLog, push16_busLog, dropFetch_busLog, State.emit]
  unfold illegalIffs
  split <;> split <;> rfl

theorem executeInhibitTrap_log (s : State) : (executeInhibitTrap s).busLog = s.busLog := by
  unfold executeInhibitTrap
  dsimp only
  split
  · rfl
  · exact (enterException_busLog _ _ _).trans rfl

theorem dmaRelease_log (s : State) : (dmaRelease s).busLog = s.busLog := by
  unfold dmaRelease; split <;> rfl

theorem nmiAck_log (s : State) : (nmiAck s).busLog = .nmiAck :: s.busLog := enterException_busLog _ _ _

theorem intAck_log (s : State) : (intAck s).busLog = .intAck (intVector s) (ackLine s) :: s.busLog := by
  refine (enterException_busLog _ _ _).trans ?_
  show BusEvent.intAck _ _ :: (takeLine s).busLog = _
  unfold takeLine
  split <;> rfl

theorem fatalReset_log (s : State) : (fatalReset s).busLog = .resetOut :: s.busLog := by
  have h : ∀ la v t, (maybePoke la v t).busLog = t.busLog := fun la v t => by
    unfold maybePoke
    dsimp only
    split <;> rfl
  simp only [fatalReset, mpuReset, State.emit, userReset, h]

theorem fetchPlan_oneEvent (s : State) : (fetchPlan s).OneEvent s := by
  unfold fetchPlan
  split
  · exact oneEvent_none (executeInhibitTrap_log _)
  · split
    · exact oneEvent_emit _ (illegalTrap2_log _)
    · exact oneEvent_emit _ (illegalTrap3_log _)
    · rfl

theorem nextPlan_oneEvent (s : State) : (nextPlan s).OneEvent s := by
  unfold nextPlan
  split
  · rfl
  · exact fetchPlan_oneEvent s

/-- The same for states with the same log. -/
theorem Plan.OneEvent.of {s s' : State} {p : Plan} (h : p.OneEvent s') (e : s'.busLog = s.busLog) : p.OneEvent s := by
  cases p with
  | become t => simp only [Plan.OneEvent, Machine.OneEvent, e] at h ⊢; exact h
  | run i t => exact h.trans e

theorem acks_oneEvent (s t : State) (h : t.busLog = s.busLog) : OneEvent s (nmiAck t) ∧ OneEvent s (intAck t) :=
  ⟨oneEvent_emit _ ((nmiAck_log t).trans (by rw [h])), oneEvent_emit _ ((intAck_log t).trans (by rw [h]))⟩

theorem boundary_oneEvent (s : State) : (boundary s).OneEvent s := by
  have r := dmaRelease_log s
  have a := acks_oneEvent s (dmaRelease s) r
  unfold boundary
  split
  · exact oneEvent_none (enterException_busLog _ _ _)
  · split
    · exact (nextPlan_oneEvent _).of rfl
    · unfold sampleRequests
      dsimp only
      split
      · exact oneEvent_none rfl
      · split
        · exact a.1
        · split
          · exact a.2
          · exact (nextPlan_oneEvent _).of r

theorem plan_oneEvent (s : State) : (plan s).OneEvent s := by
  unfold plan
  dsimp only
  generalize hu : sampleNmi s = u
  have e : u.busLog = s.busLog := by rw [← hu]; rfl
  refine Plan.OneEvent.of (s' := u) ?_ e
  have r := dmaRelease_log u
  have a := acks_oneEvent u (dmaRelease u) r
  split
  · exact oneEvent_emit _ (fatalReset_log u)
  · split
    · exact boundary_oneEvent u
    · unfold haltCycle
      dsimp only
      repeat' split
      all_goals first | exact oneEvent_none rfl | exact a.1 | exact a.2 | exact oneEvent_none r
    · unfold sleepCycle
      dsimp only
      repeat' split
      all_goals first | exact oneEvent_none rfl | exact a.1 | exact a.2 | exact oneEvent_none r

/-- An action of the machine records at most one event (R214, R220). -/
theorem machineStep_oneEvent (s t : State) (e : machineStep s = .next t) : OneEvent s t := by
  have h := plan_oneEvent s
  unfold machineStep at e
  cases hp : plan s with
  | become u => rw [hp] at h e; injection e with e; subst e; exact h
  | run i u =>
    rw [hp] at h e
    have k := exec_oneEvent i u t e
    simp only [OneEvent] at k ⊢
    rwa [show u.busLog = s.busLog from h] at k

end Sys2Proof.Machine
end

