-- ==== Sys2Proof/Laws/PerInstr.lean ====
section
/-! SUPPORT. Laws stated instruction by instruction. -/

namespace Sys2Proof.Laws

/-- R300: the encoding of an instruction is one to four bytes. -/
def EncodedLength.Statement (i : Instr) : Prop := 1 ≤ (encode i).length ∧ (encode i).length ≤ 4

theorem EncodedLength.addAR (r : R8) : EncodedLength.Statement (.addAR r) :=
  ⟨Nat.le_of_ble_eq_true rfl, Nat.le_of_ble_eq_true rfl⟩
theorem EncodedLength.addAN (n : Byte) : EncodedLength.Statement (.addAN n) :=
  ⟨Nat.le_of_ble_eq_true rfl, Nat.le_of_ble_eq_true rfl⟩
theorem EncodedLength.addAM : EncodedLength.Statement .addAM :=
  ⟨Nat.le_of_ble_eq_true rfl, Nat.le_of_ble_eq_true rfl⟩
theorem EncodedLength.addAX (y : Idx) (d : Byte) : EncodedLength.Statement (.addAX y d) :=
  ⟨Nat.le_of_ble_eq_true rfl, Nat.le_of_ble_eq_true rfl⟩
theorem EncodedLength.adcAR (r : R8) : EncodedLength.Statement (.adcAR r) :=
  ⟨Nat.le_of_ble_eq_true rfl, Nat.le_of_ble_eq_true rfl⟩
theorem EncodedLength.adcAN (n : Byte) : EncodedLength.Statement (.adcAN n) :=
  ⟨Nat.le_of_ble_eq_true rfl, Nat.le_of_ble_eq_true rfl⟩
theorem EncodedLength.adcAM : EncodedLength.Statement .adcAM :=
  ⟨Nat.le_of_ble_eq_true rfl, Nat.le_of_ble_eq_true rfl⟩
theorem EncodedLength.adcAX (y : Idx) (d : Byte) : EncodedLength.Statement (.adcAX y d) :=
  ⟨Nat.le_of_ble_eq_true rfl, Nat.le_of_ble_eq_true rfl⟩
theorem EncodedLength.subAR (r : R8) : EncodedLength.Statement (.subAR r) :=
  ⟨Nat.le_of_ble_eq_true rfl, Nat.le_of_ble_eq_true rfl⟩
theorem EncodedLength.subAN (n : Byte) : EncodedLength.Statement (.subAN n) :=
  ⟨Nat.le_of_ble_eq_true rfl, Nat.le_of_ble_eq_true rfl⟩
theorem EncodedLength.subAM : EncodedLength.Statement .subAM :=
  ⟨Nat.le_of_ble_eq_true rfl, Nat.le_of_ble_eq_true rfl⟩
theorem EncodedLength.subAX (y : Idx) (d : Byte) : EncodedLength.Statement (.subAX y d) :=
  ⟨Nat.le_of_ble_eq_true rfl, Nat.le_of_ble_eq_true rfl⟩
theorem EncodedLength.sbcAR (r : R8) : EncodedLength.Statement (.sbcAR r) :=
  ⟨Nat.le_of_ble_eq_true rfl, Nat.le_of_ble_eq_true rfl⟩
theorem EncodedLength.sbcAN (n : Byte) : EncodedLength.Statement (.sbcAN n) :=
  ⟨Nat.le_of_ble_eq_true rfl, Nat.le_of_ble_eq_true rfl⟩
theorem EncodedLength.sbcAM : EncodedLength.Statement .sbcAM :=
  ⟨Nat.le_of_ble_eq_true rfl, Nat.le_of_ble_eq_true rfl⟩
theorem EncodedLength.sbcAX (y : Idx) (d : Byte) : EncodedLength.Statement (.sbcAX y d) :=
  ⟨Nat.le_of_ble_eq_true rfl, Nat.le_of_ble_eq_true rfl⟩
theorem EncodedLength.andAR (r : R8) : EncodedLength.Statement (.andAR r) :=
  ⟨Nat.le_of_ble_eq_true rfl, Nat.le_of_ble_eq_true rfl⟩
theorem EncodedLength.andAN (n : Byte) : EncodedLength.Statement (.andAN n) :=
  ⟨Nat.le_of_ble_eq_true rfl, Nat.le_of_ble_eq_true rfl⟩
theorem EncodedLength.andAM : EncodedLength.Statement .andAM :=
  ⟨Nat.le_of_ble_eq_true rfl, Nat.le_of_ble_eq_true rfl⟩
theorem EncodedLength.andAX (y : Idx) (d : Byte) : EncodedLength.Statement (.andAX y d) :=
  ⟨Nat.le_of_ble_eq_true rfl, Nat.le_of_ble_eq_true rfl⟩
theorem EncodedLength.xorAR (r : R8) : EncodedLength.Statement (.xorAR r) :=
  ⟨Nat.le_of_ble_eq_true rfl, Nat.le_of_ble_eq_true rfl⟩
theorem EncodedLength.xorAN (n : Byte) : EncodedLength.Statement (.xorAN n) :=
  ⟨Nat.le_of_ble_eq_true rfl, Nat.le_of_ble_eq_true rfl⟩
theorem EncodedLength.xorAM : EncodedLength.Statement .xorAM :=
  ⟨Nat.le_of_ble_eq_true rfl, Nat.le_of_ble_eq_true rfl⟩
theorem EncodedLength.xorAX (y : Idx) (d : Byte) : EncodedLength.Statement (.xorAX y d) :=
  ⟨Nat.le_of_ble_eq_true rfl, Nat.le_of_ble_eq_true rfl⟩
theorem EncodedLength.orAR (r : R8) : EncodedLength.Statement (.orAR r) :=
  ⟨Nat.le_of_ble_eq_true rfl, Nat.le_of_ble_eq_true rfl⟩
theorem EncodedLength.orAN (n : Byte) : EncodedLength.Statement (.orAN n) :=
  ⟨Nat.le_of_ble_eq_true rfl, Nat.le_of_ble_eq_true rfl⟩
theorem EncodedLength.orAM : EncodedLength.Statement .orAM :=
  ⟨Nat.le_of_ble_eq_true rfl, Nat.le_of_ble_eq_true rfl⟩
theorem EncodedLength.orAX (y : Idx) (d : Byte) : EncodedLength.Statement (.orAX y d) :=
  ⟨Nat.le_of_ble_eq_true rfl, Nat.le_of_ble_eq_true rfl⟩
theorem EncodedLength.cpAR (r : R8) : EncodedLength.Statement (.cpAR r) :=
  ⟨Nat.le_of_ble_eq_true rfl, Nat.le_of_ble_eq_true rfl⟩
theorem EncodedLength.cpAN (n : Byte) : EncodedLength.Statement (.cpAN n) :=
  ⟨Nat.le_of_ble_eq_true rfl, Nat.le_of_ble_eq_true rfl⟩
theorem EncodedLength.cpAM : EncodedLength.Statement .cpAM :=
  ⟨Nat.le_of_ble_eq_true rfl, Nat.le_of_ble_eq_true rfl⟩
theorem EncodedLength.cpAX (y : Idx) (d : Byte) : EncodedLength.Statement (.cpAX y d) :=
  ⟨Nat.le_of_ble_eq_true rfl, Nat.le_of_ble_eq_true rfl⟩
theorem EncodedLength.incR (r : R8) : EncodedLength.Statement (.incR r) :=
  ⟨Nat.le_of_ble_eq_true rfl, Nat.le_of_ble_eq_true rfl⟩
theorem EncodedLength.incM : EncodedLength.Statement .incM :=
  ⟨Nat.le_of_ble_eq_true rfl, Nat.le_of_ble_eq_true rfl⟩
theorem EncodedLength.incX (y : Idx) (d : Byte) : EncodedLength.Statement (.incX y d) :=
  ⟨Nat.le_of_ble_eq_true rfl, Nat.le_of_ble_eq_true rfl⟩
theorem EncodedLength.decR (r : R8) : EncodedLength.Statement (.decR r) :=
  ⟨Nat.le_of_ble_eq_true rfl, Nat.le_of_ble_eq_true rfl⟩
theorem EncodedLength.decM : EncodedLength.Statement .decM :=
  ⟨Nat.le_of_ble_eq_true rfl, Nat.le_of_ble_eq_true rfl⟩
theorem EncodedLength.decX (y : Idx) (d : Byte) : EncodedLength.Statement (.decX y d) :=
  ⟨Nat.le_of_ble_eq_true rfl, Nat.le_of_ble_eq_true rfl⟩
theorem EncodedLength.neg : EncodedLength.Statement .neg :=
  ⟨Nat.le_of_ble_eq_true rfl, Nat.le_of_ble_eq_true rfl⟩
theorem EncodedLength.cpl : EncodedLength.Statement .cpl :=
  ⟨Nat.le_of_ble_eq_true rfl, Nat.le_of_ble_eq_true rfl⟩
theorem EncodedLength.daa : EncodedLength.Statement .daa :=
  ⟨Nat.le_of_ble_eq_true rfl, Nat.le_of_ble_eq_true rfl⟩
theorem EncodedLength.ccf : EncodedLength.Statement .ccf :=
  ⟨Nat.le_of_ble_eq_true rfl, Nat.le_of_ble_eq_true rfl⟩
theorem EncodedLength.scf : EncodedLength.Statement .scf :=
  ⟨Nat.le_of_ble_eq_true rfl, Nat.le_of_ble_eq_true rfl⟩
theorem EncodedLength.tstR (r : R8) : EncodedLength.Statement (.tstR r) :=
  ⟨Nat.le_of_ble_eq_true rfl, Nat.le_of_ble_eq_true rfl⟩
theorem EncodedLength.tstN (n : Byte) : EncodedLength.Statement (.tstN n) :=
  ⟨Nat.le_of_ble_eq_true rfl, Nat.le_of_ble_eq_true rfl⟩
theorem EncodedLength.tstM : EncodedLength.Statement .tstM :=
  ⟨Nat.le_of_ble_eq_true rfl, Nat.le_of_ble_eq_true rfl⟩
theorem EncodedLength.mltSs (p : Pair) : EncodedLength.Statement (.mltSs p) :=
  ⟨Nat.le_of_ble_eq_true rfl, Nat.le_of_ble_eq_true rfl⟩
theorem EncodedLength.addHlSs (p : Pair) : EncodedLength.Statement (.addHlSs p) :=
  ⟨Nat.le_of_ble_eq_true rfl, Nat.le_of_ble_eq_true rfl⟩
theorem EncodedLength.addIxXx (p : Pair) : EncodedLength.Statement (.addIxXx p) :=
  ⟨Nat.le_of_ble_eq_true rfl, Nat.le_of_ble_eq_true rfl⟩
theorem EncodedLength.addIyYy (p : Pair) : EncodedLength.Statement (.addIyYy p) :=
  ⟨Nat.le_of_ble_eq_true rfl, Nat.le_of_ble_eq_true rfl⟩
theorem EncodedLength.adcHlSs (p : Pair) : EncodedLength.Statement (.adcHlSs p) :=
  ⟨Nat.le_of_ble_eq_true rfl, Nat.le_of_ble_eq_true rfl⟩
theorem EncodedLength.sbcHlSs (p : Pair) : EncodedLength.Statement (.sbcHlSs p) :=
  ⟨Nat.le_of_ble_eq_true rfl, Nat.le_of_ble_eq_true rfl⟩
theorem EncodedLength.incSs (p : Pair) : EncodedLength.Statement (.incSs p) :=
  ⟨Nat.le_of_ble_eq_true rfl, Nat.le_of_ble_eq_true rfl⟩
theorem EncodedLength.incXy (y : Idx) : EncodedLength.Statement (.incXy y) :=
  ⟨Nat.le_of_ble_eq_true rfl, Nat.le_of_ble_eq_true rfl⟩
theorem EncodedLength.decSs (p : Pair) : EncodedLength.Statement (.decSs p) :=
  ⟨Nat.le_of_ble_eq_true rfl, Nat.le_of_ble_eq_true rfl⟩
theorem EncodedLength.decXy (y : Idx) : EncodedLength.Statement (.decXy y) :=
  ⟨Nat.le_of_ble_eq_true rfl, Nat.le_of_ble_eq_true rfl⟩
theorem EncodedLength.ldRR (r : R8) (q : R8) : EncodedLength.Statement (.ldRR r q) :=
  ⟨Nat.le_of_ble_eq_true rfl, Nat.le_of_ble_eq_true rfl⟩
theorem EncodedLength.ldRN (r : R8) (n : Byte) : EncodedLength.Statement (.ldRN r n) :=
  ⟨Nat.le_of_ble_eq_true rfl, Nat.le_of_ble_eq_true rfl⟩
theorem EncodedLength.ldRM (r : R8) : EncodedLength.Statement (.ldRM r) :=
  ⟨Nat.le_of_ble_eq_true rfl, Nat.le_of_ble_eq_true rfl⟩
theorem EncodedLength.ldRX (r : R8) (y : Idx) (d : Byte) : EncodedLength.Statement (.ldRX r y d) :=
  ⟨Nat.le_of_ble_eq_true rfl, Nat.le_of_ble_eq_true rfl⟩
theorem EncodedLength.ldMR (r : R8) : EncodedLength.Statement (.ldMR r) :=
  ⟨Nat.le_of_ble_eq_true rfl, Nat.le_of_ble_eq_true rfl⟩
theorem EncodedLength.ldXR (y : Idx) (d : Byte) (r : R8) : EncodedLength.Statement (.ldXR y d r) :=
  ⟨Nat.le_of_ble_eq_true rfl, Nat.le_of_ble_eq_true rfl⟩
theorem EncodedLength.ldMN (n : Byte) : EncodedLength.Statement (.ldMN n) :=
  ⟨Nat.le_of_ble_eq_true rfl, Nat.le_of_ble_eq_true rfl⟩
theorem EncodedLength.ldXN (y : Idx) (d : Byte) (n : Byte) : EncodedLength.Statement (.ldXN y d n) :=
  ⟨Nat.le_of_ble_eq_true rfl, Nat.le_of_ble_eq_true rfl⟩
theorem EncodedLength.ldABc : EncodedLength.Statement .ldABc :=
  ⟨Nat.le_of_ble_eq_true rfl, Nat.le_of_ble_eq_true rfl⟩
theorem EncodedLength.ldADe : EncodedLength.Statement .ldADe :=
  ⟨Nat.le_of_ble_eq_true rfl, Nat.le_of_ble_eq_true rfl⟩
theorem EncodedLength.ldAMn (mn : Word) : EncodedLength.Statement (.ldAMn mn) :=
  ⟨Nat.le_of_ble_eq_true rfl, Nat.le_of_ble_eq_true rfl⟩
theorem EncodedLength.ldBcA : EncodedLength.Statement .ldBcA :=
  ⟨Nat.le_of_ble_eq_true rfl, Nat.le_of_ble_eq_true rfl⟩
theorem EncodedLength.ldDeA : EncodedLength.Statement .ldDeA :=
  ⟨Nat.le_of_ble_eq_true rfl, Nat.le_of_ble_eq_true rfl⟩
theorem EncodedLength.ldMnA (mn : Word) : EncodedLength.Statement (.ldMnA mn) :=
  ⟨Nat.le_of_ble_eq_true rfl, Nat.le_of_ble_eq_true rfl⟩
theorem EncodedLength.ldAI : EncodedLength.Statement .ldAI :=
  ⟨Nat.le_of_ble_eq_true rfl, Nat.le_of_ble_eq_true rfl⟩
theorem EncodedLength.ldAR : EncodedLength.Statement .ldAR :=
  ⟨Nat.le_of_ble_eq_true rfl, Nat.le_of_ble_eq_true rfl⟩
theorem EncodedLength.ldIA : EncodedLength.Statement .ldIA :=
  ⟨Nat.le_of_ble_eq_true rfl, Nat.le_of_ble_eq_true rfl⟩
theorem EncodedLength.ldRA : EncodedLength.Statement .ldRA :=
  ⟨Nat.le_of_ble_eq_true rfl, Nat.le_of_ble_eq_true rfl⟩
theorem EncodedLength.ldDdMn (p : Pair) (mn : Word) : EncodedLength.Statement (.ldDdMn p mn) :=
  ⟨Nat.le_of_ble_eq_true rfl, Nat.le_of_ble_eq_true rfl⟩
theorem EncodedLength.ldXyMn (y : Idx) (mn : Word) : EncodedLength.Statement (.ldXyMn y mn) :=
  ⟨Nat.le_of_ble_eq_true rfl, Nat.le_of_ble_eq_true rfl⟩
theorem EncodedLength.ldHlFromMn (mn : Word) : EncodedLength.Statement (.ldHlFromMn mn) :=
  ⟨Nat.le_of_ble_eq_true rfl, Nat.le_of_ble_eq_true rfl⟩
theorem EncodedLength.ldDdFromMn (p : Pair) (mn : Word) : EncodedLength.Statement (.ldDdFromMn p mn) :=
  ⟨Nat.le_of_ble_eq_true rfl, Nat.le_of_ble_eq_true rfl⟩
theorem EncodedLength.ldXyFromMn (y : Idx) (mn : Word) : EncodedLength.Statement (.ldXyFromMn y mn) :=
  ⟨Nat.le_of_ble_eq_true rfl, Nat.le_of_ble_eq_true rfl⟩
theorem EncodedLength.ldMnHl (mn : Word) : EncodedLength.Statement (.ldMnHl mn) :=
  ⟨Nat.le_of_ble_eq_true rfl, Nat.le_of_ble_eq_true rfl⟩
theorem EncodedLength.ldMnSs (mn : Word) (p : Pair) : EncodedLength.Statement (.ldMnSs mn p) :=
  ⟨Nat.le_of_ble_eq_true rfl, Nat.le_of_ble_eq_true rfl⟩
theorem EncodedLength.ldMnXy (mn : Word) (y : Idx) : EncodedLength.Statement (.ldMnXy mn y) :=
  ⟨Nat.le_of_ble_eq_true rfl, Nat.le_of_ble_eq_true rfl⟩
theorem EncodedLength.ldSpHl : EncodedLength.Statement .ldSpHl :=
  ⟨Nat.le_of_ble_eq_true rfl, Nat.le_of_ble_eq_true rfl⟩
theorem EncodedLength.ldSpXy (y : Idx) : EncodedLength.Statement (.ldSpXy y) :=
  ⟨Nat.le_of_ble_eq_true rfl, Nat.le_of_ble_eq_true rfl⟩
theorem EncodedLength.pushTt (p : Pair) : EncodedLength.Statement (.pushTt p) :=
  ⟨Nat.le_of_ble_eq_true rfl, Nat.le_of_ble_eq_true rfl⟩
theorem EncodedLength.pushXy (y : Idx) : EncodedLength.Statement (.pushXy y) :=
  ⟨Nat.le_of_ble_eq_true rfl, Nat.le_of_ble_eq_true rfl⟩
theorem EncodedLength.popTt (p : Pair) : EncodedLength.Statement (.popTt p) :=
  ⟨Nat.le_of_ble_eq_true rfl, Nat.le_of_ble_eq_true rfl⟩
theorem EncodedLength.popXy (y : Idx) : EncodedLength.Statement (.popXy y) :=
  ⟨Nat.le_of_ble_eq_true rfl, Nat.le_of_ble_eq_true rfl⟩
theorem EncodedLength.exDeHl : EncodedLength.Statement .exDeHl :=
  ⟨Nat.le_of_ble_eq_true rfl, Nat.le_of_ble_eq_true rfl⟩
theorem EncodedLength.exAfAf : EncodedLength.Statement .exAfAf :=
  ⟨Nat.le_of_ble_eq_true rfl, Nat.le_of_ble_eq_true rfl⟩
theorem EncodedLength.exx : EncodedLength.Statement .exx :=
  ⟨Nat.le_of_ble_eq_true rfl, Nat.le_of_ble_eq_true rfl⟩
theorem EncodedLength.exSpHl : EncodedLength.Statement .exSpHl :=
  ⟨Nat.le_of_ble_eq_true rfl, Nat.le_of_ble_eq_true rfl⟩
theorem EncodedLength.exSpXy (y : Idx) : EncodedLength.Statement (.exSpXy y) :=
  ⟨Nat.le_of_ble_eq_true rfl, Nat.le_of_ble_eq_true rfl⟩
theorem EncodedLength.ldi : EncodedLength.Statement .ldi :=
  ⟨Nat.le_of_ble_eq_true rfl, Nat.le_of_ble_eq_true rfl⟩
theorem EncodedLength.ldir : EncodedLength.Statement .ldir :=
  ⟨Nat.le_of_ble_eq_true rfl, Nat.le_of_ble_eq_true rfl⟩
theorem EncodedLength.ldd : EncodedLength.Statement .ldd :=
  ⟨Nat.le_of_ble_eq_true rfl, Nat.le_of_ble_eq_true rfl⟩
theorem EncodedLength.lddr : EncodedLength.Statement .lddr :=
  ⟨Nat.le_of_ble_eq_true rfl, Nat.le_of_ble_eq_true rfl⟩
theorem EncodedLength.cpi : EncodedLength.Statement .cpi :=
  ⟨Nat.le_of_ble_eq_true rfl, Nat.le_of_ble_eq_true rfl⟩
theorem EncodedLength.cpir : EncodedLength.Statement .cpir :=
  ⟨Nat.le_of_ble_eq_true rfl, Nat.le_of_ble_eq_true rfl⟩
theorem EncodedLength.cpd : EncodedLength.Statement .cpd :=
  ⟨Nat.le_of_ble_eq_true rfl, Nat.le_of_ble_eq_true rfl⟩
theorem EncodedLength.cpdr : EncodedLength.Statement .cpdr :=
  ⟨Nat.le_of_ble_eq_true rfl, Nat.le_of_ble_eq_true rfl⟩
theorem EncodedLength.rlca : EncodedLength.Statement .rlca :=
  ⟨Nat.le_of_ble_eq_true rfl, Nat.le_of_ble_eq_true rfl⟩
theorem EncodedLength.rla : EncodedLength.Statement .rla :=
  ⟨Nat.le_of_ble_eq_true rfl, Nat.le_of_ble_eq_true rfl⟩
theorem EncodedLength.rrca : EncodedLength.Statement .rrca :=
  ⟨Nat.le_of_ble_eq_true rfl, Nat.le_of_ble_eq_true rfl⟩
theorem EncodedLength.rra : EncodedLength.Statement .rra :=
  ⟨Nat.le_of_ble_eq_true rfl, Nat.le_of_ble_eq_true rfl⟩
theorem EncodedLength.rlcR (r : R8) : EncodedLength.Statement (.rlcR r) :=
  ⟨Nat.le_of_ble_eq_true rfl, Nat.le_of_ble_eq_true rfl⟩
theorem EncodedLength.rlcM : EncodedLength.Statement .rlcM :=
  ⟨Nat.le_of_ble_eq_true rfl, Nat.le_of_ble_eq_true rfl⟩
theorem EncodedLength.rlcX (y : Idx) (d : Byte) : EncodedLength.Statement (.rlcX y d) :=
  ⟨Nat.le_of_ble_eq_true rfl, Nat.le_of_ble_eq_true rfl⟩
theorem EncodedLength.rrcR (r : R8) : EncodedLength.Statement (.rrcR r) :=
  ⟨Nat.le_of_ble_eq_true rfl, Nat.le_of_ble_eq_true rfl⟩
theorem EncodedLength.rrcM : EncodedLength.Statement .rrcM :=
  ⟨Nat.le_of_ble_eq_true rfl, Nat.le_of_ble_eq_true rfl⟩
theorem EncodedLength.rrcX (y : Idx) (d : Byte) : EncodedLength.Statement (.rrcX y d) :=
  ⟨Nat.le_of_ble_eq_true rfl, Nat.le_of_ble_eq_true rfl⟩
theorem EncodedLength.rlR (r : R8) : EncodedLength.Statement (.rlR r) :=
  ⟨Nat.le_of_ble_eq_true rfl, Nat.le_of_ble_eq_true rfl⟩
theorem EncodedLength.rlM : EncodedLength.Statement .rlM :=
  ⟨Nat.le_of_ble_eq_true rfl, Nat.le_of_ble_eq_true rfl⟩
theorem EncodedLength.rlX (y : Idx) (d : Byte) : EncodedLength.Statement (.rlX y d) :=
  ⟨Nat.le_of_ble_eq_true rfl, Nat.le_of_ble_eq_true rfl⟩
theorem EncodedLength.rrR (r : R8) : EncodedLength.Statement (.rrR r) :=
  ⟨Nat.le_of_ble_eq_true rfl, Nat.le_of_ble_eq_true rfl⟩
theorem EncodedLength.rrM : EncodedLength.Statement .rrM :=
  ⟨Nat.le_of_ble_eq_true rfl, Nat.le_of_ble_eq_true rfl⟩
theorem EncodedLength.rrX (y : Idx) (d : Byte) : EncodedLength.Statement (.rrX y d) :=
  ⟨Nat.le_of_ble_eq_true rfl, Nat.le_of_ble_eq_true rfl⟩
theorem EncodedLength.slaR (r : R8) : EncodedLength.Statement (.slaR r) :=
  ⟨Nat.le_of_ble_eq_true rfl, Nat.le_of_ble_eq_true rfl⟩
theorem EncodedLength.slaM : EncodedLength.Statement .slaM :=
  ⟨Nat.le_of_ble_eq_true rfl, Nat.le_of_ble_eq_true rfl⟩
theorem EncodedLength.slaX (y : Idx) (d : Byte) : EncodedLength.Statement (.slaX y d) :=
  ⟨Nat.le_of_ble_eq_true rfl, Nat.le_of_ble_eq_true rfl⟩
theorem EncodedLength.sraR (r : R8) : EncodedLength.Statement (.sraR r) :=
  ⟨Nat.le_of_ble_eq_true rfl, Nat.le_of_ble_eq_true rfl⟩
theorem EncodedLength.sraM : EncodedLength.Statement .sraM :=
  ⟨Nat.le_of_ble_eq_true rfl, Nat.le_of_ble_eq_true rfl⟩
theorem EncodedLength.sraX (y : Idx) (d : Byte) : EncodedLength.Statement (.sraX y d) :=
  ⟨Nat.le_of_ble_eq_true rfl, Nat.le_of_ble_eq_true rfl⟩
theorem EncodedLength.srlR (r : R8) : EncodedLength.Statement (.srlR r) :=
  ⟨Nat.le_of_ble_eq_true rfl, Nat.le_of_ble_eq_true rfl⟩
theorem EncodedLength.srlM : EncodedLength.Statement .srlM :=
  ⟨Nat.le_of_ble_eq_true rfl, Nat.le_of_ble_eq_true rfl⟩
theorem EncodedLength.srlX (y : Idx) (d : Byte) : EncodedLength.Statement (.srlX y d) :=
  ⟨Nat.le_of_ble_eq_true rfl, Nat.le_of_ble_eq_true rfl⟩
theorem EncodedLength.rld : EncodedLength.Statement .rld :=
  ⟨Nat.le_of_ble_eq_true rfl, Nat.le_of_ble_eq_true rfl⟩
theorem EncodedLength.rrd : EncodedLength.Statement .rrd :=
  ⟨Nat.le_of_ble_eq_true rfl, Nat.le_of_ble_eq_true rfl⟩
theorem EncodedLength.bitR (b : BitVec 3) (r : R8) : EncodedLength.Statement (.bitR b r) :=
  ⟨Nat.le_of_ble_eq_true rfl, Nat.le_of_ble_eq_true rfl⟩
theorem EncodedLength.bitM (b : BitVec 3) : EncodedLength.Statement (.bitM b) :=
  ⟨Nat.le_of_ble_eq_true rfl, Nat.le_of_ble_eq_true rfl⟩
theorem EncodedLength.bitX (b : BitVec 3) (y : Idx) (d : Byte) : EncodedLength.Statement (.bitX b y d) :=
  ⟨Nat.le_of_ble_eq_true rfl, Nat.le_of_ble_eq_true rfl⟩
theorem EncodedLength.resR (b : BitVec 3) (r : R8) : EncodedLength.Statement (.resR b r) :=
  ⟨Nat.le_of_ble_eq_true rfl, Nat.le_of_ble_eq_true rfl⟩
theorem EncodedLength.resM (b : BitVec 3) : EncodedLength.Statement (.resM b) :=
  ⟨Nat.le_of_ble_eq_true rfl, Nat.le_of_ble_eq_true rfl⟩
theorem EncodedLength.resX (b : BitVec 3) (y : Idx) (d : Byte) : EncodedLength.Statement (.resX b y d) :=
  ⟨Nat.le_of_ble_eq_true rfl, Nat.le_of_ble_eq_true rfl⟩
theorem EncodedLength.setR (b : BitVec 3) (r : R8) : EncodedLength.Statement (.setR b r) :=
  ⟨Nat.le_of_ble_eq_true rfl, Nat.le_of_ble_eq_true rfl⟩
theorem EncodedLength.setM (b : BitVec 3) : EncodedLength.Statement (.setM b) :=
  ⟨Nat.le_of_ble_eq_true rfl, Nat.le_of_ble_eq_true rfl⟩
theorem EncodedLength.setX (b : BitVec 3) (y : Idx) (d : Byte) : EncodedLength.Statement (.setX b y d) :=
  ⟨Nat.le_of_ble_eq_true rfl, Nat.le_of_ble_eq_true rfl⟩
theorem EncodedLength.jpMn (mn : Word) : EncodedLength.Statement (.jpMn mn) :=
  ⟨Nat.le_of_ble_eq_true rfl, Nat.le_of_ble_eq_true rfl⟩
theorem EncodedLength.jpCcMn (cc : Cond) (mn : Word) : EncodedLength.Statement (.jpCcMn cc mn) :=
  ⟨Nat.le_of_ble_eq_true rfl, Nat.le_of_ble_eq_true rfl⟩
theorem EncodedLength.jpHl : EncodedLength.Statement .jpHl :=
  ⟨Nat.le_of_ble_eq_true rfl, Nat.le_of_ble_eq_true rfl⟩
theorem EncodedLength.jpXy (y : Idx) : EncodedLength.Statement (.jpXy y) :=
  ⟨Nat.le_of_ble_eq_true rfl, Nat.le_of_ble_eq_true rfl⟩
theorem EncodedLength.jrE (e : Byte) : EncodedLength.Statement (.jrE e) :=
  ⟨Nat.le_of_ble_eq_true rfl, Nat.le_of_ble_eq_true rfl⟩
theorem EncodedLength.jrCcE (cc : Cond) (e : Byte) : EncodedLength.Statement (.jrCcE cc e) :=
  ⟨Nat.le_of_ble_eq_true rfl, Nat.le_of_ble_eq_true rfl⟩
theorem EncodedLength.djnz (e : Byte) : EncodedLength.Statement (.djnz e) :=
  ⟨Nat.le_of_ble_eq_true rfl, Nat.le_of_ble_eq_true rfl⟩
theorem EncodedLength.callMn (mn : Word) : EncodedLength.Statement (.callMn mn) :=
  ⟨Nat.le_of_ble_eq_true rfl, Nat.le_of_ble_eq_true rfl⟩
theorem EncodedLength.callCcMn (cc : Cond) (mn : Word) : EncodedLength.Statement (.callCcMn cc mn) :=
  ⟨Nat.le_of_ble_eq_true rfl, Nat.le_of_ble_eq_true rfl⟩
theorem EncodedLength.ret : EncodedLength.Statement .ret :=
  ⟨Nat.le_of_ble_eq_true rfl, Nat.le_of_ble_eq_true rfl⟩
theorem EncodedLength.retCc (cc : Cond) : EncodedLength.Statement (.retCc cc) :=
  ⟨Nat.le_of_ble_eq_true rfl, Nat.le_of_ble_eq_true rfl⟩
theorem EncodedLength.reti : EncodedLength.Statement .reti :=
  ⟨Nat.le_of_ble_eq_true rfl, Nat.le_of_ble_eq_true rfl⟩
theorem EncodedLength.retn : EncodedLength.Statement .retn :=
  ⟨Nat.le_of_ble_eq_true rfl, Nat.le_of_ble_eq_true rfl⟩
theorem EncodedLength.rst (v : BitVec 3) : EncodedLength.Statement (.rst v) :=
  ⟨Nat.le_of_ble_eq_true rfl, Nat.le_of_ble_eq_true rfl⟩
theorem EncodedLength.inAN (n : Byte) : EncodedLength.Statement (.inAN n) :=
  ⟨Nat.le_of_ble_eq_true rfl, Nat.le_of_ble_eq_true rfl⟩
theorem EncodedLength.inRC (r : R8) : EncodedLength.Statement (.inRC r) :=
  ⟨Nat.le_of_ble_eq_true rfl, Nat.le_of_ble_eq_true rfl⟩
theorem EncodedLength.in0RN (r : R8) (n : Byte) : EncodedLength.Statement (.in0RN r n) :=
  ⟨Nat.le_of_ble_eq_true rfl, Nat.le_of_ble_eq_true rfl⟩
theorem EncodedLength.outNA (n : Byte) : EncodedLength.Statement (.outNA n) :=
  ⟨Nat.le_of_ble_eq_true rfl, Nat.le_of_ble_eq_true rfl⟩
theorem EncodedLength.outCR (r : R8) : EncodedLength.Statement (.outCR r) :=
  ⟨Nat.le_of_ble_eq_true rfl, Nat.le_of_ble_eq_true rfl⟩
theorem EncodedLength.out0NR (n : Byte) (r : R8) : EncodedLength.Statement (.out0NR n r) :=
  ⟨Nat.le_of_ble_eq_true rfl, Nat.le_of_ble_eq_true rfl⟩
theorem EncodedLength.ini : EncodedLength.Statement .ini :=
  ⟨Nat.le_of_ble_eq_true rfl, Nat.le_of_ble_eq_true rfl⟩
theorem EncodedLength.inir : EncodedLength.Statement .inir :=
  ⟨Nat.le_of_ble_eq_true rfl, Nat.le_of_ble_eq_true rfl⟩
theorem EncodedLength.ind : EncodedLength.Statement .ind :=
  ⟨Nat.le_of_ble_eq_true rfl, Nat.le_of_ble_eq_true rfl⟩
theorem EncodedLength.indr : EncodedLength.Statement .indr :=
  ⟨Nat.le_of_ble_eq_true rfl, Nat.le_of_ble_eq_true rfl⟩
theorem EncodedLength.outi : EncodedLength.Statement .outi :=
  ⟨Nat.le_of_ble_eq_true rfl, Nat.le_of_ble_eq_true rfl⟩
theorem EncodedLength.otir : EncodedLength.Statement .otir :=
  ⟨Nat.le_of_ble_eq_true rfl, Nat.le_of_ble_eq_true rfl⟩
theorem EncodedLength.outd : EncodedLength.Statement .outd :=
  ⟨Nat.le_of_ble_eq_true rfl, Nat.le_of_ble_eq_true rfl⟩
theorem EncodedLength.otdr : EncodedLength.Statement .otdr :=
  ⟨Nat.le_of_ble_eq_true rfl, Nat.le_of_ble_eq_true rfl⟩
theorem EncodedLength.otim : EncodedLength.Statement .otim :=
  ⟨Nat.le_of_ble_eq_true rfl, Nat.le_of_ble_eq_true rfl⟩
theorem EncodedLength.otimr : EncodedLength.Statement .otimr :=
  ⟨Nat.le_of_ble_eq_true rfl, Nat.le_of_ble_eq_true rfl⟩
theorem EncodedLength.otdm : EncodedLength.Statement .otdm :=
  ⟨Nat.le_of_ble_eq_true rfl, Nat.le_of_ble_eq_true rfl⟩
theorem EncodedLength.otdmr : EncodedLength.Statement .otdmr :=
  ⟨Nat.le_of_ble_eq_true rfl, Nat.le_of_ble_eq_true rfl⟩
theorem EncodedLength.tstioN (n : Byte) : EncodedLength.Statement (.tstioN n) :=
  ⟨Nat.le_of_ble_eq_true rfl, Nat.le_of_ble_eq_true rfl⟩
theorem EncodedLength.nop : EncodedLength.Statement .nop :=
  ⟨Nat.le_of_ble_eq_true rfl, Nat.le_of_ble_eq_true rfl⟩
theorem EncodedLength.halt : EncodedLength.Statement .halt :=
  ⟨Nat.le_of_ble_eq_true rfl, Nat.le_of_ble_eq_true rfl⟩
theorem EncodedLength.slp : EncodedLength.Statement .slp :=
  ⟨Nat.le_of_ble_eq_true rfl, Nat.le_of_ble_eq_true rfl⟩
theorem EncodedLength.di : EncodedLength.Statement .di :=
  ⟨Nat.le_of_ble_eq_true rfl, Nat.le_of_ble_eq_true rfl⟩
theorem EncodedLength.ei : EncodedLength.Statement .ei :=
  ⟨Nat.le_of_ble_eq_true rfl, Nat.le_of_ble_eq_true rfl⟩
theorem EncodedLength.im0 : EncodedLength.Statement .im0 :=
  ⟨Nat.le_of_ble_eq_true rfl, Nat.le_of_ble_eq_true rfl⟩
theorem EncodedLength.im1 : EncodedLength.Statement .im1 :=
  ⟨Nat.le_of_ble_eq_true rfl, Nat.le_of_ble_eq_true rfl⟩
theorem EncodedLength.im2 : EncodedLength.Statement .im2 :=
  ⟨Nat.le_of_ble_eq_true rfl, Nat.le_of_ble_eq_true rfl⟩
theorem EncodedLength.ldmMmu : EncodedLength.Statement .ldmMmu :=
  ⟨Nat.le_of_ble_eq_true rfl, Nat.le_of_ble_eq_true rfl⟩
theorem EncodedLength.ldmMmuh : EncodedLength.Statement .ldmMmuh :=
  ⟨Nat.le_of_ble_eq_true rfl, Nat.le_of_ble_eq_true rfl⟩
theorem EncodedLength.ldmsMmu : EncodedLength.Statement .ldmsMmu :=
  ⟨Nat.le_of_ble_eq_true rfl, Nat.le_of_ble_eq_true rfl⟩
theorem EncodedLength.swap : EncodedLength.Statement .swap :=
  ⟨Nat.le_of_ble_eq_true rfl, Nat.le_of_ble_eq_true rfl⟩
theorem EncodedLength.ldmFromMmu : EncodedLength.Statement .ldmFromMmu :=
  ⟨Nat.le_of_ble_eq_true rfl, Nat.le_of_ble_eq_true rfl⟩
theorem EncodedLength.ldmFromMmuh : EncodedLength.Statement .ldmFromMmuh :=
  ⟨Nat.le_of_ble_eq_true rfl, Nat.le_of_ble_eq_true rfl⟩
theorem EncodedLength.ldmFromSys : EncodedLength.Statement .ldmFromSys :=
  ⟨Nat.le_of_ble_eq_true rfl, Nat.le_of_ble_eq_true rfl⟩
theorem EncodedLength.wdarm : EncodedLength.Statement .wdarm :=
  ⟨Nat.le_of_ble_eq_true rfl, Nat.le_of_ble_eq_true rfl⟩
theorem EncodedLength.wdres : EncodedLength.Statement .wdres :=
  ⟨Nat.le_of_ble_eq_true rfl, Nat.le_of_ble_eq_true rfl⟩

end Sys2Proof.Laws
end

