-- ==== Sys2Proof/Laws/Rti.lean ====
section
/-! SUPPORT. What the real-time-interrupt generator can do: the least distance of its pulses, and what its
operations leave alone. -/

namespace Sys2Proof.Machine

theorem rtiSlot_least (p : Pins) (r : Rti) (k : Nat) : 1024 ≤ rtiSlot p r k := by
  unfold rtiSlot rtiTracked rtiQuotient
  dsimp only
  split <;> omega

theorem rtiCount_least (n len : Nat) (h : 1024 ≤ len) : 1024 ≤ (rtiCount n len).toNat := by
  unfold rtiCount
  split
  · rw [BitVec.toNat_ofNat, Nat.mod_eq_of_lt ‹_›]; exact h
  · unfold freeCount; dsimp only; split
    · decide
    · omega

theorem rtiDefaultCount_least (p : Pins) : rtiDefaultCount p = 0#24 ∨ 1024 ≤ (rtiDefaultCount p).toNat := by
  unfold rtiDefaultCount
  split
  · exact .inl rfl
  · split
    · exact .inr (by decide)
    · exact .inr (by omega)

theorem rtiStartFree_least (p : Pins) (n : Nat) (r : Rti) :
    (rtiStartFree p n r).count = 0#24 ∨ 1024 ≤ (rtiStartFree p n r).count.toNat := by
  unfold rtiStartFree
  dsimp only
  split
  · exact .inr (rtiCount_least n _ (Nat.le_max_left 1024 _))
  · exact rtiDefaultCount_least p

/-- After a pulse the timer is stopped, or the next pulse is at least 1024 clocks away (R956, R957). -/
theorem rtiReload_least (p : Pins) (n : Nat) (r : Rti) :
    (rtiReload p n r).count = 0#24 ∨ 1024 ≤ (rtiReload p n r).count.toNat := by
  unfold rtiReload
  repeat' split
  · exact .inr (rtiCount_least n _ (rtiSlot_least p r _))
  · exact .inr (rtiCount_least n _ (rtiSlot_least p r _))
  · exact rtiStartFree_least p n r
  · exact rtiStartFree_least p n r

/-- A reload leaves the measurement of the reference alone. -/
theorem rtiReload_measure (p : Pins) (n : Nat) (r : Rti) :
    rtiReload p n r = { r with count := (rtiReload p n r).count, slot := (rtiReload p n r).slot } := by
  unfold rtiReload
  repeat' split
  all_goals rfl

/-- What counting the missed edges can do: the count and, at the third, the loss of the reference. -/
theorem rtiWatch_cases (r : Rti) :
    rtiWatch r = { r with missed := (rtiWatch r).missed } ∨
      (r.synced = true ∧ rtiMissed r = 3 ∧ rtiWatch r = { r with synced := false, edges := 0, missed := 3 }) := by
  unfold rtiWatch
  repeat' split
  · exact .inl rfl
  · exact .inl rfl
  · refine .inr ⟨by simp_all, ?_, rfl⟩
    have : rtiMissed r ≤ 3 := by unfold rtiMissed; split <;> omega
    omega

/-- What the clocks of the generator can do: its own state, its pulses in the log and the index of the next free
value change, and nothing else. -/
def RtiOnly (s t : State) : Prop := t = { s with rti := t.rti, busLog := t.busLog, free := t.free }

theorem RtiOnly.trans {s t u : State} (h : RtiOnly s t) (k : RtiOnly t u) : RtiOnly s u := by
  unfold RtiOnly at *
  rw [k, h]

theorem rtiRun_only (fuel n : Nat) (s : State) : RtiOnly s (rtiRun fuel n s) := by
  induction fuel generalizing n s with
  | zero => rfl
  | succ fuel ih =>
    rw [rtiRun]
    repeat' split
    · rfl
    · rfl
    · refine RtiOnly.trans ?_ (ih _ _)
      rfl

theorem rtiClocks_only (n : Nat) (s : State) : RtiOnly s (rtiClocks n s) := by
  unfold rtiClocks
  split
  · rfl
  · exact (rtiRun_only _ n s).trans rfl

end Sys2Proof.Machine
end

