-- ==== Sys2Proof/Laws/Step.lean ====
section
/-! SUPPORT. What one step of the machine does at a boundary: the cases of `plan`, and the fetch where
nothing comes before it. -/

namespace Sys2Proof.Machine

/-- With no input due a step is a step of the machine itself. -/
theorem step_unscheduled (s : State) (h : s.sched = []) : step s = machineStep s := by
  simp only [step, scheduledStep, h]

/-- An arrival that is due is what the step does. -/
theorem step_arrival (s : State) (a : Arrival) (rest : List (Nat × Arrival)) (h : s.sched = (0, a) :: rest) :
    step s = arrive a { s with sched := rest } := by
  simp only [step, scheduledStep, h]

/-- An arrival that is not due comes one step nearer. -/
theorem step_later (s : State) (k : Nat) (a : Arrival) (rest : List (Nat × Arrival))
    (h : s.sched = (k + 1, a) :: rest) : step s = machineStep { s with sched := (k, a) :: rest } := by
  simp only [step, scheduledStep, h]

/-- Sampling the NMI input changes nothing where it is low. -/
theorem sampleNmi_idle (s : State) (h : s.pins.nmiReq = false) : sampleNmi s = s := by
  cases s; simp_all [sampleNmi]

theorem plan_fatal (s : State) (h : s.fatal = true) : plan s = .become (fatalReset (sampleNmi s)) := by
  simp [plan, sampleNmi, h]

theorem plan_running (s : State) (hf : s.fatal = false) (hr : s.run = .running) : plan s = boundary (sampleNmi s) := by
  simp [plan, sampleNmi, hf, hr]

theorem plan_halted (s : State) (hf : s.fatal = false) (hr : s.run = .halted) :
    plan s = .become (haltCycle (sampleNmi s)) := by
  simp [plan, sampleNmi, hf, hr]

theorem plan_sleeping (s : State) (hf : s.fatal = false) (hr : s.run = .sleeping) :
    plan s = .become (sleepCycle (sampleNmi s)) := by
  simp [plan, sampleNmi, hf, hr]

/-- With no trap due and no shadow a boundary samples the requests. -/
theorem boundary_samples (s : State) (hw : s.wpPending = false) (hs : s.shadow = false) :
    boundary s = sampleRequests s := by
  simp [boundary, trapDue, hw, hs]

/-- The bus is with the processor already: releasing it changes nothing. -/
theorem dmaRelease_idle (s : State) (ha : s.dma.ack = false) (hc : s.dma.cut = false) : dmaRelease s = s := by
  obtain ⟨cfg, reg, alt, ix, iy, sp, pc, i, r, iff1, iff2, im, run, hie, nl, pf, rep, sh, esh, wp, fa, is, mmu, mb,
    irq, ius, ⟨da, dd, dx, di, dc⟩, wdt, sys, rti, pins, mem, ioIn, bl, late, sched, free⟩ := s
  simp_all [dmaRelease]

/-- With nothing requested a boundary goes on to the fetch. -/
theorem sampleRequests_none (s : State) (hd : dmaRequest s = false) (ha : s.dma.ack = false)
    (hc : s.dma.cut = false) (hn : s.nmiLatch = false) (hi : (intRequest s && s.iff1) = false)
    (he : s.eiShadow = false) : sampleRequests s = nextPlan s := by
  have e : { s with eiShadow := false } = s := by cases s; simp_all
  rw [sampleRequests, hd, if_neg (by simp), dmaRelease_idle s ha hc]
  dsimp only
  rw [if_neg (by simp [hn]), hi, Bool.false_and, if_neg (by simp), e]

/-- Where nothing comes before the fetch the next action is the fetch. -/
theorem plan_atFetch (s : State) (h : Safety.AtFetch s) : plan s = fetchPlan s := by
  obtain ⟨h1, h2, h3, h4, h5, h6, h7, h8, h9, h10, h11, h12, h13, h14⟩ := h
  rw [plan_running s h2 h3, sampleNmi_idle s h6, boundary_samples s h4 h13,
    sampleRequests_none s h7 h8 h9 h5 h10 h14, nextPlan, h11]

/-- Where nothing comes before the fetch a step is the fetch. -/
theorem step_atFetch (s : State) (h : Safety.AtFetch s) : step s = (fetchPlan s).result exec := by
  rw [step_unscheduled s h.1, machineStep, plan_atFetch s h]

/-- With an empty prefetch buffer the first byte is the one in memory, and no free value is used. -/
theorem firstByte_empty (s : State) (h : s.prefetched = none) : firstByte s = readMem s s.pc := by
  simp only [firstByte, h]

theorem afterFetch_empty (s : State) (h : s.prefetched = none) : afterFetch s = s := by
  cases s; simp_all [afterFetch, firstByteUsed]

/-- The fetch of an instruction that no check stops. -/
theorem fetchPlan_instr (s : State) (i : Instr) (hx : execInhibited s s.pc = false) (hp : s.prefetched = none)
    (hd : decode (readMem s s.pc) (readMem s (s.pc + 1#16)) (readMem s (s.pc + 2#16))
      (readMem s (s.pc + 3#16)) = .instr i) :
    fetchPlan s = .run i { s with prefetched := prefetchedAfter i s } := by
  rw [fetchPlan, hx, if_neg (by simp), fetched, firstByte_empty s hp, hd, afterFetch_empty s hp]

/-- Without `en_prftch` nothing is prefetched. -/
theorem prefetchedAfter_off (i : Instr) (s : State) (h : s.pins.enPrftch = false) : prefetchedAfter i s = none := by
  simp [prefetchedAfter, h]

end Sys2Proof.Machine
end

