-- ==== Sys2Proof/Laws/Stores.lean ====
section
/-! SUPPORT. Where the memory that an instruction changes lies: at the addresses `stores` lists (R214). -/

namespace Sys2Proof.Machine

/-- Memory is as before outside these logical addresses. -/
def WritesAt (las : List Word) (s t : State) : Prop := ∀ pa, pa ∉ physical s las → t.mem.get pa = s.mem.get pa

theorem writesAt_same (las : List Word) {s t : State} (h : t.mem = s.mem) : WritesAt las s t := fun pa _ => by rw [h]

/-- The same between states that agree with these in memory and in the translation. -/
theorem WritesAt.of {las : List Word} {s t s' t' : State} (h : WritesAt las s' t') (hs : s'.mem = s.mem)
    (hc : s'.cfg = s.cfg) (hm : s'.mmu = s.mmu) (ht : t.mem = t'.mem) : WritesAt las s t := by
  intro pa hp
  have e : physical s las = physical s' las := by
    unfold physical; congr 1; funext la; rw [translate_congr hc hm]
  rw [ht, h pa (e ▸ hp), hs]

theorem writesAt_writeMem (k : WriteKind) (la : Word) (v : Byte) (s : State) : WritesAt [la] s (writeMem k la v s) := by
  intro pa h
  simp only [physical, List.map_cons, List.map_nil, List.mem_singleton] at h
  unfold writeMem; split
  · cases k <;> rfl
  · simp [Memory.get_set, h]

theorem WritesAt.trans {as bs : List Word} {s t u : State} (h : WritesAt as s t) (k : WritesAt bs t u)
    (hc : t.cfg = s.cfg) (hm : t.mmu = s.mmu) : WritesAt (as ++ bs) s u := by
  intro pa hp
  have e : physical t bs = physical s bs := by
    unfold physical; congr 1; funext la; rw [translate_congr hc hm]
  simp only [physical, List.map_append, List.mem_append, not_or] at hp
  rw [k pa (e ▸ hp.2), h pa hp.1]

theorem writesAt_writeMem16 (k : WriteKind) (la w : Word) (s : State) :
    WritesAt [la, la + 1#16] s (writeMem16 k la w s) :=
  (writesAt_writeMem k la _ s).trans (writesAt_writeMem k _ _ _) (by simp) (by simp)

theorem writesAt_push16 (w : Word) (s : State) : WritesAt (pushed s) s (push16 w s) :=
  ((writesAt_writeMem .stack _ _ s).trans (writesAt_writeMem .stack _ _ _) (by simp) (by simp)).of rfl rfl rfl rfl

theorem writesAt_writeBytes (vs : List Byte) (la : Word) (s : State) :
    WritesAt ((List.range vs.length).map fun k => la + BitVec.ofNat 16 k) s (writeBytes la vs s) := by
  induction vs generalizing la s with
  | nil => exact writesAt_same _ rfl
  | cons v vs ih =>
    have h := (writesAt_writeMem .data la v s).trans (ih (la + 1#16) (writeMem .data la v s)) (by simp) (by simp)
    have e : (List.range (v :: vs).length).map (fun k => la + BitVec.ofNat 16 k) =
        [la] ++ (List.range vs.length).map fun k => la + 1#16 + BitVec.ofNat 16 k := by
      rw [List.length_cons, List.range_succ_eq_map]
      simp only [List.map_cons, List.map_map, List.singleton_append]
      congr 1
      · simp
      · refine List.map_congr_left fun k _ => ?_
        simp only [Function.comp]
        rw [BitVec.add_assoc]; congr 1
        apply BitVec.eq_of_toNat_eq; simp; omega
    rw [e]; exact h

theorem writesAt_enterException (a b : Word) (s : State) : WritesAt (pushed s) s (enterException a b s) :=
  (writesAt_push16 a (dropFetch s)).of rfl rfl rfl rfl

@[simp] theorem translate_advance (k la : Word) (s : State) : translate (advance k s) la = translate s la :=
  translate_congr rfl rfl la
@[simp] theorem translate_ioReadDone (port la : Word) (s : State) : translate (ioReadDone port s) la = translate s la :=
  translate_congr (by simp) (by simp) la

theorem writeMem_get (k : WriteKind) (la : Word) (v : Byte) (s : State) (pa : Nat) (h : pa ≠ (translate s la).toNat) :
    (writeMem k la v s).mem.get pa = s.mem.get pa := writesAt_writeMem k la v s pa (by simpa [physical] using h)

theorem writeMem16_get (k : WriteKind) (la w : Word) (s : State) (pa : Nat) (h : pa ≠ (translate s la).toNat)
    (h' : pa ≠ (translate s (la + 1#16)).toNat) : (writeMem16 k la w s).mem.get pa = s.mem.get pa :=
  writesAt_writeMem16 k la w s pa (by simp [physical, h, h'])

theorem push16_get (w : Word) (s : State) (pa : Nat) (h : pa ≠ (translate s (s.sp - 1#16)).toNat)
    (h' : pa ≠ (translate s (s.sp - 2#16)).toNat) : (push16 w s).mem.get pa = s.mem.get pa :=
  writesAt_push16 w s pa (by simp [physical, pushed, h, h'])

theorem finishIteration_mem (b : Bool) (i : Instr) (s : State) : (finishIteration b i s).mem = s.mem := by
  cases b <;> rfl

/-- A push in a state that writes through the same translation at the same stack pointer. -/
theorem writesAt_enterFrom (a b : Word) {s u : State} (hm : u.mem = s.mem) (hc : u.cfg = s.cfg) (hx : u.mmu = s.mmu)
    (hp : u.sp = s.sp) : WritesAt (pushed s) s (enterException a b u) := by
  have e : pushed s = pushed u := by simp only [pushed, hp]
  rw [e]
  exact (writesAt_enterException a b u).of hm hc hx rfl

theorem writesAt_illegalTrap2 (s : State) : WritesAt (pushed s) s (illegalTrap2 s) := by
  apply writesAt_enterFrom
  all_goals (unfold illegalIffs; split <;> split <;> rfl)

theorem retiPulse_mem (s : State) : (retiPulse s).mem = s.mem := by
  unfold retiPulse
  split
  · rfl
  · split <;> rfl

theorem wdArm_mem (s : State) : (wdArm s).mem = s.mem := by
  unfold wdArm
  split
  · dsimp only
    split <;> rfl
  · rfl

theorem wdRes_mem (s : State) : (wdRes s).mem = s.mem := by
  unfold wdRes
  split <;> rfl

theorem execDaa_mem (s t : State) (e : execDaa s = .next t) : t.mem = s.mem := by
  unfold execDaa at e
  split at e
  · injection e with e; subst e; rfl
  · split at e <;> injection e with e <;> subst e <;> rfl

/-- An instruction of the MPU, in each version. -/
theorem writesAt_mpuOrCpu (f g : State → State) (las : Word → List Word) (s t : State)
    (e : mpuOrCpu f g s = .next t)
    (hf : ∀ u, WritesAt (las (regHl u)) u (f u)) (hg : ∀ u, WritesAt (las (regHl u)) u (g u)) :
    WritesAt (mpuStores s (las (regHl s))) s t := by
  unfold mpuOrCpu onCpu at e
  unfold mpuStores
  cases hv : s.cfg.version <;> cases ho : s.cfg.mpuOnCpu <;> simp only [hv, ho] at e ⊢ <;> injection e with e <;>
    subst e
  · exact writesAt_illegalTrap2 s
  · exact (hg (advance 2#16 s)).of rfl rfl rfl rfl
  · exact (hf (advance 2#16 s)).of rfl rfl rfl rfl
  · exact (hf (advance 2#16 s)).of rfl rfl rfl rfl

theorem writesAt_table (vs : List Byte) (h : vs.length = 16) (s : State) :
    WritesAt ((List.range 16).map fun k => regHl s + BitVec.ofNat 16 k) s (writeBytes (regHl s) vs s) := by
  have := writesAt_writeBytes vs (regHl s) s
  rwa [h] at this

theorem storeAbsent_mem (s : State) : (storeAbsent s).mem = (writeBytes (regHl s) (freeBytes16 s.free) s).mem := by
  rw [storeAbsent]

@[simp] theorem withShadow_mem (s : State) : (withShadow s).mem = s.mem := rfl
@[simp] theorem clearStatus_mem (b : Bool) (s : State) : (clearStatus b s).mem = s.mem := rfl

/-- The memory that an instruction changes is at the addresses `stores` lists (R214). -/
theorem exec_stores (i : Instr) (s t : State) (e : exec i s = .next t) : WritesAt (stores i s) s t := by
  have table : ∀ f, mpuOrCpu f storeAbsent s = .next t →
      (∀ u, ∃ vs : List Byte, vs.length = 16 ∧ (f u).mem = (writeBytes (regHl u) vs u).mem) →
      WritesAt (mpuStores s (tableAt s)) s t := fun f e hf =>
    writesAt_mpuOrCpu f storeAbsent (fun h => (List.range 16).map fun k => h + BitVec.ofNat 16 k) s t e
      (fun u => let ⟨vs, hl, hm⟩ := hf u; (writesAt_table vs hl u).of rfl rfl rfl hm)
      (fun u => (writesAt_table (freeBytes16 u.free) (by simp [freeBytes16]) u).of rfl rfl rfl (storeAbsent_mem u))
  have quiet : ∀ f g, mpuOrCpu f g s = .next t → (∀ u, (f u).mem = u.mem) → (∀ u, (g u).mem = u.mem) →
      WritesAt (mpuStores s []) s t := fun f g e hf hg =>
    writesAt_mpuOrCpu f g (fun _ => []) s t e (fun u => writesAt_same _ (hf u)) (fun u => writesAt_same _ (hg u))
  cases i
  case daa => exact writesAt_same _ (execDaa_mem s t e)
  case ldmMmu | ldmMmuh | ldmsMmu | swap =>
    simp only [exec, execLdmMmu, execLdmMmuh, execLdmsMmu, execSwap] at e
    exact quiet _ _ e (fun _ => rfl) (fun _ => rfl)
  case wdarm => exact quiet wdArm id e wdArm_mem (fun _ => rfl)
  case wdres => exact quiet wdRes id e wdRes_mem (fun _ => rfl)
  case ldmFromMmu =>
    simp only [exec, execLdmFromMmu] at e
    refine table _ e fun u => ⟨u.mmuBuf.toList.map loByte, by simp, ?_⟩
    rw [withShadow_mem, passTable, setPair_mem]
  case ldmFromMmuh =>
    simp only [exec, execLdmFromMmuh] at e
    refine table _ e fun u => ⟨u.mmuBuf.toList.map hiByte, by simp, ?_⟩
    rw [withShadow_mem, passTable, setPair_mem]
  case ldmFromSys =>
    simp only [exec, execLdmFromSys] at e
    refine table _ e fun u => ⟨statusBlock u, by simp only [statusBlock, List.length_cons, List.length_nil], ?_⟩
    rw [withShadow_mem, readStatus, emit_mem, clearStatus_mem, passTable, setPair_mem]
  all_goals injection e with e
  all_goals subst e
  case jpCcMn | jrCcE | djnz | retCc => exact writesAt_same _ (by split <;> rfl)
  case reti => exact writesAt_same _ (retiPulse_mem _)
  case callCcMn =>
    simp only [stores]
    split
    · exact (writesAt_push16 _ s).of rfl rfl rfl rfl
    · exact writesAt_same _ rfl
  case rld | rrd =>
    exact (writesAt_writeMem .data (regHl s) _ (advance 2#16 s)).of rfl rfl rfl rfl
  all_goals first | exact writesAt_same _ rfl | skip
  all_goals intro pa hp
  all_goals
    simp only [stores, physical, pushed, List.map_cons, List.map_nil, List.mem_cons, List.not_mem_nil, or_false,
      not_or] at hp
  all_goals
    simp [incAt, decAt, shiftReg, shiftAt, transferStep, searchStep, inputStep, outputStep, otimStep, moveHl,
      inputReg, finishIteration_mem, callTo, writeMem_get, writeMem16_get, push16_get, *]

end Sys2Proof.Machine
end

