-- ==== Sys2Proof/Tests/Slice0.lean ====
section
/-! SUPPORT. The model's own tests. Expected results come from spec/: the encoding column of
spec/opcode_table.json, the vectors of 95_test_vectors.md (their names stand in each comment), or a hand
calculation from the rule named. Each case is one step from a small state; a theorem groups the cases of one
family. The theorems `witness_<statement>` show states that meet the hypotheses of the statements in
Sys2Proof/Certificates/Slice0/Obligations.lean. -/

namespace Sys2Proof.Tests

open Sys2Proof Sys2Proof.Machine Sys2Proof.Claims

-- One theorem at a time: elaborating all of them at once starts more threads than the check's memory limit allows.
set_option Elab.async false

/-! ## Helpers -/

/-- The MPU version with the default parameters. -/
def mpuConfig : Config := { Config.initial with version := .mpu }

/-- The start state of part B of 95_test_vectors.md, as the MPU version, which has every module. -/
def base : State := { State.resetOf mpuConfig with pc := 0x0100, sp := 0x8000 }

/-- The same machine as the CPU version. -/
def asCpu (s : State) : State := { s with cfg := { s.cfg with version := .cpu } }

def ram (la : Word) (v : Byte) (s : State) : State := pokeMem la v s
def ramFrom (la : Word) (vs : List Byte) (s : State) : State := placeBytes la vs s
def setPc (w : Word) (s : State) : State := { s with pc := w }
def setF (sf zf hf pv nf cf : Bool) (s : State) : State :=
  { s with reg := { s.reg with f := ⟨sf, zf, false, hf, false, pv, nf, cf⟩ } }
def setSpecialI (v : Byte) (s : State) : State := { s with i := v }
def setSpecialR (v : Byte) (s : State) : State := { s with r := v }
def setIff1 (b : Bool) (s : State) : State := { s with iff1 := b }
def setIff2 (b : Bool) (s : State) : State := { s with iff2 := b }
def setIm (m : IntMode) (s : State) : State := { s with im := m }
def setAlt (r : R8) (v : Byte) (s : State) : State := swapBanks (setR r v (swapBanks s))
def setAltF (v : Byte) (s : State) : State := { s with alt := { s.alt with f := flagsOfByte v } }
def announce (vs : List Byte) (s : State) : State := { s with ioIn := vs }
def withPins (p : Pins → Pins) (s : State) : State := { s with pins := p s.pins }

def isR (r : R8) (v : Byte) (s : State) : Bool := getR r s == v
def isPair (p : Pair) (w : Word) (s : State) : Bool := getPair p s == w
def isPc (w : Word) (s : State) : Bool := s.pc == w
def isRam (la : Word) (v : Byte) (s : State) : Bool := readMem s la == v
def isF (sf zf hf pv nf cf : Bool) (s : State) : Bool :=
  s.reg.f.s == sf && s.reg.f.z == zf && s.reg.f.h == hf && s.reg.f.pv == pv && s.reg.f.n == nf && s.reg.f.c == cf
def isAlt (r : R8) (v : Byte) (s : State) : Bool := isR r v (swapBanks s)
def isAltF (v : Byte) (s : State) : Bool := flagsToByte s.alt.f == v
def isBus (es : List BusEvent) (s : State) : Bool := s.busLog == es
def isIff (one two : Bool) (s : State) : Bool := s.iff1 == one && s.iff2 == two

/-- One step from a state answers a next state that passes every check. -/
def after (s : State) (checks : List (State → Bool)) : Bool :=
  match step s with
  | .next t => checks.all fun p => p t
  | _ => false

/-- The bytes at PC, the start state set up, one step, the checks. -/
def ok (setup : List (State → State)) (bytes : List Byte) (checks : List (State → Bool)) : Bool :=
  let s := setup.foldl (fun s f => f s) base
  after (placeBytes s.pc bytes s) checks

/-! ## WellFormed: an ill-formed term for each check -/

theorem test_wellformed_dd :
    [Instr.mltSs .af, .addHlSs .ix, .adcHlSs .iy, .sbcHlSs .af, .incSs .ix, .decSs .iy, .ldDdMn .af 0,
      .ldDdFromMn .ix 0, .ldMnSs 0 .iy].all (fun i => !i.wellFormed) = true ∧
    [Instr.mltSs .sp, .addHlSs .bc, .adcHlSs .de, .sbcHlSs .hl, .incSs .sp, .decSs .bc, .ldDdMn .de 0,
      .ldDdFromMn .hl 0, .ldMnSs 0 .sp].all Instr.wellFormed = true := by decide

theorem test_wellformed_xx_yy :
    [Instr.addIxXx .hl, .addIxXx .iy, .addIxXx .af, .addIyYy .hl, .addIyYy .ix, .addIyYy .af].all
      (fun i => !i.wellFormed) = true ∧
    [Instr.addIxXx .ix, .addIxXx .sp, .addIyYy .iy, .addIyYy .bc].all Instr.wellFormed = true := by decide

theorem test_wellformed_tt :
    [Instr.pushTt .sp, .pushTt .ix, .popTt .sp, .popTt .iy].all (fun i => !i.wellFormed) = true ∧
    [Instr.pushTt .af, .pushTt .hl, .popTt .af, .popTt .bc].all Instr.wellFormed = true := by decide

theorem test_wellformed_jr :
    [Instr.jrCcE .po 0, .jrCcE .pe 0, .jrCcE .p 0, .jrCcE .m 0].all (fun i => !i.wellFormed) = true ∧
    [Instr.jrCcE .nz 0, .jrCcE .z 0, .jrCcE .nc 0, .jrCcE .c 0].all Instr.wellFormed = true := by decide

/-! ## Decoding: a word of every constructor, written out from its encoding in spec/opcode_table.json -/

theorem test_decode_arith8_1 :
    decode 0b10000101 0 0 0 = .instr (.addAR .l) ∧
    decode 0b11000110 0b01011010 0 0 = .instr (.addAN 0x5A) ∧
    decode 0b10000110 0 0 0 = .instr .addAM ∧
    decode 0b11111101 0b10000110 0b11110001 0 = .instr (.addAX .iy 0xF1) ∧
    decode 0b10001011 0 0 0 = .instr (.adcAR .e) ∧
    decode 0b11001110 0b01011010 0 0 = .instr (.adcAN 0x5A) ∧
    decode 0b10001110 0 0 0 = .instr .adcAM ∧
    decode 0b11111101 0b10001110 0b11110001 0 = .instr (.adcAX .iy 0xF1) ∧
    decode 0b10010010 0 0 0 = .instr (.subAR .d) ∧
    decode 0b11010110 0b01011010 0 0 = .instr (.subAN 0x5A) ∧
    decode 0b10010110 0 0 0 = .instr .subAM ∧
    decode 0b11111101 0b10010110 0b11110001 0 = .instr (.subAX .iy 0xF1) ∧
    decode 0b10011100 0 0 0 = .instr (.sbcAR .h) ∧
    decode 0b11011110 0b01011010 0 0 = .instr (.sbcAN 0x5A) ∧
    decode 0b10011110 0 0 0 = .instr .sbcAM ∧
    decode 0b11111101 0b10011110 0b11110001 0 = .instr (.sbcAX .iy 0xF1) ∧
    decode 0b10100111 0 0 0 = .instr (.andAR .a) ∧
    decode 0b11100110 0b01011010 0 0 = .instr (.andAN 0x5A) ∧
    decode 0b10100110 0 0 0 = .instr .andAM ∧
    decode 0b11111101 0b10100110 0b11110001 0 = .instr (.andAX .iy 0xF1) ∧
    decode 0b10101001 0 0 0 = .instr (.xorAR .c) ∧
    decode 0b11101110 0b01011010 0 0 = .instr (.xorAN 0x5A) ∧
    decode 0b10101110 0 0 0 = .instr .xorAM ∧
    decode 0b11111101 0b10101110 0b11110001 0 = .instr (.xorAX .iy 0xF1) := by decide +kernel

theorem test_decode_arith8_2 :
    decode 0b10110000 0 0 0 = .instr (.orAR .b) ∧
    decode 0b11110110 0b01011010 0 0 = .instr (.orAN 0x5A) ∧
    decode 0b10110110 0 0 0 = .instr .orAM ∧
    decode 0b11111101 0b10110110 0b11110001 0 = .instr (.orAX .iy 0xF1) ∧
    decode 0b10111101 0 0 0 = .instr (.cpAR .l) ∧
    decode 0b11111110 0b01011010 0 0 = .instr (.cpAN 0x5A) ∧
    decode 0b10111110 0 0 0 = .instr .cpAM ∧
    decode 0b11111101 0b10111110 0b11110001 0 = .instr (.cpAX .iy 0xF1) ∧
    decode 0b00011100 0 0 0 = .instr (.incR .e) ∧
    decode 0b00110100 0 0 0 = .instr .incM ∧
    decode 0b11011101 0b00110100 0b11110001 0 = .instr (.incX .ix 0xF1) ∧
    decode 0b00101101 0 0 0 = .instr (.decR .l) ∧
    decode 0b00110101 0 0 0 = .instr .decM ∧
    decode 0b11111101 0b00110101 0b11110001 0 = .instr (.decX .iy 0xF1) ∧
    decode 0b11101101 0b01000100 0 0 = .instr .neg ∧
    decode 0b00101111 0 0 0 = .instr .cpl ∧
    decode 0b00100111 0 0 0 = .instr .daa ∧
    decode 0b00111111 0 0 0 = .instr .ccf ∧
    decode 0b00110111 0 0 0 = .instr .scf ∧
    decode 0b11101101 0b00010100 0 0 = .instr (.tstR .d) ∧
    decode 0b11101101 0b01100100 0b01011010 0 = .instr (.tstN 0x5A) ∧
    decode 0b11101101 0b00110100 0 0 = .instr .tstM ∧
    decode 0b11101101 0b01001100 0 0 = .instr (.mltSs .bc) := by decide +kernel

theorem test_decode_arith16 :
    decode 0b00011001 0 0 0 = .instr (.addHlSs .de) ∧
    decode 0b11011101 0b00101001 0 0 = .instr (.addIxXx .ix) ∧
    decode 0b11111101 0b00111001 0 0 = .instr (.addIyYy .sp) ∧
    decode 0b11101101 0b01001010 0 0 = .instr (.adcHlSs .bc) ∧
    decode 0b11101101 0b01010010 0 0 = .instr (.sbcHlSs .de) ∧
    decode 0b00110011 0 0 0 = .instr (.incSs .sp) ∧
    decode 0b11111101 0b00100011 0 0 = .instr (.incXy .iy) ∧
    decode 0b00001011 0 0 0 = .instr (.decSs .bc) ∧
    decode 0b11111101 0b00101011 0 0 = .instr (.decXy .iy) := by decide +kernel

theorem test_decode_byte_loads :
    decode 0b01101000 0 0 0 = .instr (.ldRR .l .b) ∧
    decode 0b00010110 0b01011010 0 0 = .instr (.ldRN .d 0x5A) ∧
    decode 0b01111110 0 0 0 = .instr (.ldRM .a) ∧
    decode 0b11111101 0b01000110 0b11110001 0 = .instr (.ldRX .b .iy 0xF1) ∧
    decode 0b01110011 0 0 0 = .instr (.ldMR .e) ∧
    decode 0b11111101 0b01110011 0b11110001 0 = .instr (.ldXR .iy 0xF1 .e) ∧
    decode 0b00110110 0b01011010 0 0 = .instr (.ldMN 0x5A) ∧
    decode 0b11111101 0b00110110 0b11110001 0b01011010 = .instr (.ldXN .iy 0xF1 0x5A) ∧
    decode 0b00001010 0 0 0 = .instr .ldABc ∧
    decode 0b00011010 0 0 0 = .instr .ldADe ∧
    decode 0b00111010 0b00110100 0b10110010 0 = .instr (.ldAMn 0xB234) ∧
    decode 0b00000010 0 0 0 = .instr .ldBcA ∧
    decode 0b00010010 0 0 0 = .instr .ldDeA ∧
    decode 0b00110010 0b00110100 0b10110010 0 = .instr (.ldMnA 0xB234) ∧
    decode 0b11101101 0b01010111 0 0 = .instr .ldAI ∧
    decode 0b11101101 0b01011111 0 0 = .instr .ldAR ∧
    decode 0b11101101 0b01000111 0 0 = .instr .ldIA ∧
    decode 0b11101101 0b01001111 0 0 = .instr .ldRA := by decide +kernel

theorem test_decode_word_loads :
    decode 0b00000001 0b00110100 0b10110010 0 = .instr (.ldDdMn .bc 0xB234) ∧
    decode 0b11111101 0b00100001 0b00110100 0b10110010 = .instr (.ldXyMn .iy 0xB234) ∧
    decode 0b00101010 0b00110100 0b10110010 0 = .instr (.ldHlFromMn 0xB234) ∧
    decode 0b11101101 0b01101011 0b00110100 0b10110010 = .instr (.ldDdFromMn .hl 0xB234) ∧
    decode 0b11011101 0b00101010 0b00110100 0b10110010 = .instr (.ldXyFromMn .ix 0xB234) ∧
    decode 0b00100010 0b00110100 0b10110010 0 = .instr (.ldMnHl 0xB234) ∧
    decode 0b11101101 0b01110011 0b00110100 0b10110010 = .instr (.ldMnSs 0xB234 .sp) ∧
    decode 0b11111101 0b00100010 0b00110100 0b10110010 = .instr (.ldMnXy 0xB234 .iy) ∧
    decode 0b11111001 0 0 0 = .instr .ldSpHl ∧
    decode 0b11111101 0b11111001 0 0 = .instr (.ldSpXy .iy) ∧
    decode 0b11000101 0 0 0 = .instr (.pushTt .bc) ∧
    decode 0b11111101 0b11100101 0 0 = .instr (.pushXy .iy) ∧
    decode 0b11100001 0 0 0 = .instr (.popTt .hl) ∧
    decode 0b11111101 0b11100001 0 0 = .instr (.popXy .iy) := by decide +kernel

theorem test_decode_exchanges :
    decode 0b11101011 0 0 0 = .instr .exDeHl ∧
    decode 0b00001000 0 0 0 = .instr .exAfAf ∧
    decode 0b11011001 0 0 0 = .instr .exx ∧
    decode 0b11100011 0 0 0 = .instr .exSpHl ∧
    decode 0b11011101 0b11100011 0 0 = .instr (.exSpXy .ix) := by decide +kernel

theorem test_decode_block :
    decode 0b11101101 0b10100000 0 0 = .instr .ldi ∧
    decode 0b11101101 0b10110000 0 0 = .instr .ldir ∧
    decode 0b11101101 0b10101000 0 0 = .instr .ldd ∧
    decode 0b11101101 0b10111000 0 0 = .instr .lddr ∧
    decode 0b11101101 0b10100001 0 0 = .instr .cpi ∧
    decode 0b11101101 0b10110001 0 0 = .instr .cpir ∧
    decode 0b11101101 0b10101001 0 0 = .instr .cpd ∧
    decode 0b11101101 0b10111001 0 0 = .instr .cpdr := by decide +kernel

theorem test_decode_rotates_1 :
    decode 0b00000111 0 0 0 = .instr .rlca ∧
    decode 0b00010111 0 0 0 = .instr .rla ∧
    decode 0b00001111 0 0 0 = .instr .rrca ∧
    decode 0b00011111 0 0 0 = .instr .rra ∧
    decode 0b11001011 0b00000101 0 0 = .instr (.rlcR .l) ∧
    decode 0b11001011 0b00000110 0 0 = .instr .rlcM ∧
    decode 0b11111101 0b11001011 0b11110001 0b00000110 = .instr (.rlcX .iy 0xF1) ∧
    decode 0b11001011 0b00001000 0 0 = .instr (.rrcR .b) ∧
    decode 0b11001011 0b00001110 0 0 = .instr .rrcM ∧
    decode 0b11011101 0b11001011 0b11110001 0b00001110 = .instr (.rrcX .ix 0xF1) ∧
    decode 0b11001011 0b00010001 0 0 = .instr (.rlR .c) ∧
    decode 0b11001011 0b00010110 0 0 = .instr .rlM ∧
    decode 0b11111101 0b11001011 0b11110001 0b00010110 = .instr (.rlX .iy 0xF1) ∧
    decode 0b11001011 0b00011111 0 0 = .instr (.rrR .a) ∧
    decode 0b11001011 0b00011110 0 0 = .instr .rrM ∧
    decode 0b11011101 0b11001011 0b11110001 0b00011110 = .instr (.rrX .ix 0xF1) ∧
    decode 0b11001011 0b00100100 0 0 = .instr (.slaR .h) ∧
    decode 0b11001011 0b00100110 0 0 = .instr .slaM ∧
    decode 0b11111101 0b11001011 0b11110001 0b00100110 = .instr (.slaX .iy 0xF1) ∧
    decode 0b11001011 0b00101010 0 0 = .instr (.sraR .d) ∧
    decode 0b11001011 0b00101110 0 0 = .instr .sraM ∧
    decode 0b11011101 0b11001011 0b11110001 0b00101110 = .instr (.sraX .ix 0xF1) ∧
    decode 0b11001011 0b00111011 0 0 = .instr (.srlR .e) ∧
    decode 0b11001011 0b00111110 0 0 = .instr .srlM := by decide +kernel

theorem test_decode_rotates_2 :
    decode 0b11111101 0b11001011 0b11110001 0b00111110 = .instr (.srlX .iy 0xF1) ∧
    decode 0b11101101 0b01101111 0 0 = .instr .rld ∧
    decode 0b11101101 0b01100111 0 0 = .instr .rrd := by decide +kernel

theorem test_decode_bits :
    decode 0b11001011 0b01101100 0 0 = .instr (.bitR 5 .h) ∧
    decode 0b11001011 0b01010110 0 0 = .instr (.bitM 2) ∧
    decode 0b11011101 0b11001011 0b11110001 0b01110110 = .instr (.bitX 6 .ix 0xF1) ∧
    decode 0b11001011 0b10101010 0 0 = .instr (.resR 5 .d) ∧
    decode 0b11001011 0b10010110 0 0 = .instr (.resM 2) ∧
    decode 0b11111101 0b11001011 0b11110001 0b10110110 = .instr (.resX 6 .iy 0xF1) ∧
    decode 0b11001011 0b11101011 0 0 = .instr (.setR 5 .e) ∧
    decode 0b11001011 0b11010110 0 0 = .instr (.setM 2) ∧
    decode 0b11011101 0b11001011 0b11110001 0b11110110 = .instr (.setX 6 .ix 0xF1) := by decide +kernel

theorem test_decode_control :
    decode 0b11000011 0b00110100 0b10110010 0 = .instr (.jpMn 0xB234) ∧
    decode 0b11100010 0b00110100 0b10110010 0 = .instr (.jpCcMn .po 0xB234) ∧
    decode 0b11101001 0 0 0 = .instr .jpHl ∧
    decode 0b11011101 0b11101001 0 0 = .instr (.jpXy .ix) ∧
    decode 0b00011000 0b10010011 0 0 = .instr (.jrE 0x93) ∧
    decode 0b00100000 0b10010011 0 0 = .instr (.jrCcE .nz 0x93) ∧
    decode 0b00010000 0b10010011 0 0 = .instr (.djnz 0x93) ∧
    decode 0b11001101 0b00110100 0b10110010 0 = .instr (.callMn 0xB234) ∧
    decode 0b11010100 0b00110100 0b10110010 0 = .instr (.callCcMn .nc 0xB234) ∧
    decode 0b11001001 0 0 0 = .instr .ret ∧
    decode 0b11101000 0 0 0 = .instr (.retCc .pe) ∧
    decode 0b11101101 0b01001101 0 0 = .instr .reti ∧
    decode 0b11101101 0b01000101 0 0 = .instr .retn ∧
    decode 0b11010111 0 0 0 = .instr (.rst 2) := by decide +kernel

theorem test_decode_input_output :
    decode 0b11011011 0b01011010 0 0 = .instr (.inAN 0x5A) ∧
    decode 0b11101101 0b01100000 0 0 = .instr (.inRC .h) ∧
    decode 0b11101101 0b00001000 0b01011010 0 = .instr (.in0RN .c 0x5A) ∧
    decode 0b11010011 0b01011010 0 0 = .instr (.outNA 0x5A) ∧
    decode 0b11101101 0b01010001 0 0 = .instr (.outCR .d) ∧
    decode 0b11101101 0b00100001 0b01011010 0 = .instr (.out0NR 0x5A .h) ∧
    decode 0b11101101 0b10100010 0 0 = .instr .ini ∧
    decode 0b11101101 0b10110010 0 0 = .instr .inir ∧
    decode 0b11101101 0b10101010 0 0 = .instr .ind ∧
    decode 0b11101101 0b10111010 0 0 = .instr .indr ∧
    decode 0b11101101 0b10100011 0 0 = .instr .outi ∧
    decode 0b11101101 0b10110011 0 0 = .instr .otir ∧
    decode 0b11101101 0b10101011 0 0 = .instr .outd ∧
    decode 0b11101101 0b10111011 0 0 = .instr .otdr ∧
    decode 0b11101101 0b10000011 0 0 = .instr .otim ∧
    decode 0b11101101 0b10010011 0 0 = .instr .otimr ∧
    decode 0b11101101 0b10001011 0 0 = .instr .otdm ∧
    decode 0b11101101 0b10011011 0 0 = .instr .otdmr ∧
    decode 0b11101101 0b01110100 0b01011010 0 = .instr (.tstioN 0x5A) := by decide +kernel

theorem test_decode_cpu_control :
    decode 0b00000000 0 0 0 = .instr .nop ∧
    decode 0b01110110 0 0 0 = .instr .halt ∧
    decode 0b11101101 0b01110110 0 0 = .instr .slp ∧
    decode 0b11110011 0 0 0 = .instr .di ∧
    decode 0b11111011 0 0 0 = .instr .ei ∧
    decode 0b11101101 0b01000110 0 0 = .instr .im0 ∧
    decode 0b11101101 0b01010110 0 0 = .instr .im1 ∧
    decode 0b11101101 0b01011110 0 0 = .instr .im2 := by decide +kernel

theorem test_decode_mpu :
    decode 0b11101101 0b10000000 0 0 = .instr .ldmMmu ∧
    decode 0b11101101 0b10010000 0 0 = .instr .ldmMmuh ∧
    decode 0b11101101 0b10001000 0 0 = .instr .ldmsMmu ∧
    decode 0b11101101 0b01111111 0 0 = .instr .swap ∧
    decode 0b11101101 0b10000010 0 0 = .instr .ldmFromMmu ∧
    decode 0b11101101 0b10010010 0 0 = .instr .ldmFromMmuh ∧
    decode 0b11101101 0b10011010 0 0 = .instr .ldmFromSys ∧
    decode 0b11101101 0b01101110 0 0 = .instr .wdarm ∧
    decode 0b11101101 0b01111110 0 0 = .instr .wdres := by decide +kernel
/-- R316: undefined second bytes and undefined final bytes (TT-01, TT-03 to TT-11, TT-13 to TT-16). -/
theorem test_decode_illegal :
    [(0xED, 0x30), (0xCB, 0x30), (0xCB, 0x37), (0xDD, 0x44), (0xDD, 0xDD), (0xFD, 0xED), (0xDD, 0x00), (0xED, 0xED),
      (0xED, 0x77), (0xED, 0xFF)].all (fun (b : Byte × Byte) => decode b.1 b.2 0 0 == .illegal2) = true ∧
    decode 0xDD 0xCB 0x05 0x00 = .illegal3 ∧ decode 0xFD 0xCB 0x05 0x36 = .illegal3 ∧
    decode 0xDD 0xCB 0x05 0x47 = .illegal3 ∧ decode 0xFD 0xCB 0x7F 0xC7 = .illegal3 := by decide +kernel

/-- R322 numbers the first fetched byte most significant; what matches no row in that order is no instruction. -/
theorem test_decode_table_word :
    decodeTableWord 8 0x80 = some (.addAR .b) ∧ decodeTableWord 16 0xC600 = some (.addAN 0) ∧
      decodeTableWord 24 0xFD8612 = some (.addAX .iy 0x12) ∧ decodeTableWord 24 0xC33412 = some (.jpMn 0x1234) ∧
      decodeTableWord 32 0xDDCB0586 = some (.resX 0 .ix 0x05) ∧ decodeTableWord 16 0xEDED = none ∧
      decodeTableWord 16 0xED30 = none ∧ decodeTableWord 24 0xED3021 = none := by
  decide +kernel

/-- A word placed where the machine fetches is the first instruction after reset. -/
theorem test_fetch_word :
    after (State.reset.withFetchWord 16 0x3E5A) [isR .a 0x5A, isPc 0x0002] = true ∧
      after (State.reset.withFetchWord 24 0xC33412) [isPc 0x1234] = true := by decide +kernel

/-! ## The vectors of 95_test_vectors.md, at most two for each instruction -/

/-- R400, R401, R402, R403 (TL-01, TL-02, TL-03, TL-04, TL-05, TL-06, TL-07 of 95_test_vectors.md). -/
theorem test_byte_loads_into_registers :
    ((ok [setR .c 0x5A] [0x41]
      [isR .b 0x5A, isR .c 0x5A, isPc 0x0101]) &&
     (ok [setR .a 0x99] [0x7F]
      [isR .a 0x99, isPc 0x0101]) &&
     (ok [] [0x06, 0xFF]
      [isR .b 0xFF, isPc 0x0102]) &&
     (ok [setPair .hl 0x4000, ram 0x4000 0xC3] [0x66]
      [isR .h 0xC3, isR .l 0x00, isPc 0x0101]) &&
     (ok [setPair .hl 0x4000, ram 0x4000 0xC3] [0x6E]
      [isR .h 0x40, isR .l 0xC3, isPc 0x0101]) &&
     (ok [setPair .ix 0x4000, ram 0x3FFF 0x77] [0xDD, 0x7E, 0xFF]
      [isR .a 0x77, isPc 0x0103]) &&
     (ok [setPair .iy 0x0FF0, setR .h 0x11, ram 0x106F 0x88] [0xFD, 0x66, 0x7F]
      [isR .h 0x88, isR .l 0x00, isPair .iy 0x0FF0, isPc 0x0103])) = true := by decide +kernel

/-- R408, R409 (TL-14, TL-15, TL-16 of 95_test_vectors.md). -/
theorem test_loads_of_a :
    ((ok [setPair .bc 0x1234, ram 0x1234 0x55] [0x0A]
      [isR .a 0x55, isPc 0x0101]) &&
     (ok [setPair .de 0xFFFF, ram 0xFFFF 0xAA] [0x1A]
      [isR .a 0xAA, isPc 0x0101]) &&
     (ok [ram 0x1234 0xE7] [0x3A, 0x34, 0x12]
      [isR .a 0xE7, isPc 0x0103])) = true := by decide +kernel

/-- R404, R405, R406, R407, R410, R411 (TL-09, TL-10, TL-11, TL-12, TL-13, TL-17, TL-18, TL-19 of 95_test_vectors.md). -/
theorem test_byte_stores :
    ((ok [setPair .hl 0x4000, setR .a 0x3C] [0x77]
      [isRam 0x4000 0x3C, isPc 0x0101]) &&
     (ok [setPair .hl 0x4000] [0x74]
      [isRam 0x4000 0x40, isPc 0x0101]) &&
     (ok [setPair .ix 0x2000, setR .b 0xAB] [0xDD, 0x70, 0x05]
      [isRam 0x2005 0xAB, isPc 0x0103]) &&
     (ok [setPair .hl 0x4000] [0x36, 0x5A]
      [isRam 0x4000 0x5A, isPc 0x0102]) &&
     (ok [setPair .iy 0x3000] [0xFD, 0x36, 0xFE, 0x99]
      [isRam 0x2FFE 0x99, isPc 0x0104]) &&
     (ok [setPair .bc 0x2000, setR .a 0x01] [0x02]
      [isRam 0x2000 0x01, isPc 0x0101]) &&
     (ok [setPair .de 0x2001, setR .a 0x02] [0x12]
      [isRam 0x2001 0x02, isPc 0x0101]) &&
     (ok [setR .a 0x7E] [0x32, 0xFF, 0xFF]
      [isRam 0xFFFF 0x7E, isPc 0x0103])) = true := by decide +kernel

/-- R412, R413 (TL-20, TL-21, TL-22, TL-23 of 95_test_vectors.md). -/
theorem test_special_registers :
    ((ok [setSpecialI 0x80, setIff2 false, setF false false true false true true] [0xED, 0x57]
      [isR .a 0x80, isF true false false false false true, isPc 0x0102]) &&
     (ok [setSpecialR 0x00, setIff2 true] [0xED, 0x5F]
      [isR .a 0x00, isF false true false true false false, isPc 0x0102]) &&
     (ok [setR .a 0xC0, setF false true false false false false] [0xED, 0x47]
      [fun s => s.i == 0xC0, fun s => s.reg.f.z == true, isPc 0x0102]) &&
     (ok [setR .a 0xFF] [0xED, 0x4F]
      [fun s => s.r == 0xFF, isPc 0x0102])) = true := by decide +kernel

/-- R414, R415, R416, R417, R418 (TL-24, TL-25, TL-26, TL-27, TL-28, TL-29, TL-30 of 95_test_vectors.md). -/
theorem test_word_loads :
    ((ok [] [0x01, 0x34, 0x12]
      [isR .b 0x12, isR .c 0x34, isPc 0x0103]) &&
     (ok [] [0x31, 0x00, 0x80]
      [isPair .sp 0x8000, isPc 0x0103]) &&
     (ok [] [0xDD, 0x21, 0xCD, 0xAB]
      [isPair .ix 0xABCD, isPc 0x0104]) &&
     (ok [ram 0x5000 0x78, ram 0x5001 0x56] [0x2A, 0x00, 0x50]
      [isPair .hl 0x5678, isPc 0x0103]) &&
     (ok [ram 0x5000 0x78, ram 0x5001 0x56] [0xED, 0x6B, 0x00, 0x50]
      [isPair .hl 0x5678, isPc 0x0104]) &&
     (ok [ram 0xFFFF 0x34, ram 0x0000 0x12] [0xED, 0x7B, 0xFF, 0xFF]
      [isPair .sp 0x1234, isPc 0x0104]) &&
     (ok [ram 0x5000 0xEF, ram 0x5001 0xBE] [0xFD, 0x2A, 0x00, 0x50]
      [isPair .iy 0xBEEF, isPc 0x0104])) = true := by decide +kernel

/-- R419, R420, R421 (TL-31, TL-32, TL-33 of 95_test_vectors.md). -/
theorem test_word_stores :
    ((ok [setPair .hl 0x1234] [0x22, 0x00, 0x60]
      [isRam 0x6000 0x34, isRam 0x6001 0x12, isPc 0x0103]) &&
     (ok [setPair .de 0xBEEF] [0xED, 0x53, 0xFF, 0xFF]
      [isRam 0xFFFF 0xEF, isRam 0x0000 0xBE, isPc 0x0104]) &&
     (ok [setPair .ix 0xA55A] [0xDD, 0x22, 0x00, 0x60]
      [isRam 0x6000 0x5A, isRam 0x6001 0xA5, isPc 0x0104])) = true := by decide +kernel

/-- R422, R423 (TL-34, TL-35 of 95_test_vectors.md). -/
theorem test_loads_of_sp :
    ((ok [setPair .hl 0xC000] [0xF9]
      [isPair .sp 0xC000, isPc 0x0101]) &&
     (ok [setPair .iy 0x1235] [0xFD, 0xF9]
      [isPair .sp 0x1235, isPc 0x0102])) = true := by decide +kernel

/-- R424, R425 (TL-36, TL-37, TL-39 of 95_test_vectors.md). -/
theorem test_push :
    ((ok [setPair .bc 0x1234] [0xC5]
      [isPair .sp 0x7FFE, isRam 0x7FFF 0x12, isRam 0x7FFE 0x34, isPc 0x0101]) &&
     (ok [setR .a 0x12, setF true true false false false true] [0xF5]
      [isPair .sp 0x7FFE, isRam 0x7FFF 0x12, isRam 0x7FFE 0xC1, isPc 0x0101]) &&
     (ok [setPair .ix 0xABCD] [0xDD, 0xE5]
      [isPair .sp 0x7FFE, isRam 0x7FFF 0xAB, isRam 0x7FFE 0xCD, isPc 0x0102])) = true := by decide +kernel

/-- R426, R427 (TL-40, TL-41, TL-42 of 95_test_vectors.md). -/
theorem test_pop :
    ((ok [setPair .sp 0x7FFE, ram 0x7FFE 0x34, ram 0x7FFF 0x12] [0xD1]
      [isPair .de 0x1234, isPair .sp 0x8000, isPc 0x0101]) &&
     (ok [setPair .sp 0x7FFE, ram 0x7FFE 0xD7, ram 0x7FFF 0x99] [0xF1]
      [isR .a 0x99, isPair .sp 0x8000, isF true true true true true true, isPc 0x0101]) &&
     (ok [setPair .sp 0xFFFF, ram 0xFFFF 0xCD, ram 0x0000 0xAB] [0xFD, 0xE1]
      [isPair .iy 0xABCD, isPair .sp 0x0001, isPc 0x0102])) = true := by decide +kernel

/-- R428, R429, R430 (TL-43, TL-44, TL-45 of 95_test_vectors.md). -/
theorem test_register_exchanges :
    ((ok [setPair .de 0x1111, setPair .hl 0x2222] [0xEB]
      [isPair .de 0x2222, isPair .hl 0x1111, isPc 0x0101]) &&
     (ok [setR .a 0x11, setAlt .a 0x22, setAltF 0x44, setF true false false false false true] [0x08]
      [isR .a 0x22, isAlt .a 0x11, isAltF 0x81, isF false true false true false false, isPc 0x0101]) &&
     (ok [setPair .bc 0x0102, setPair .de 0x0304, setPair .hl 0x0506, setAlt .b 0xA1, setAlt .c 0xA2, setAlt .d 0xA3, setAlt .e 0xA4, setAlt .h 0xA5, setAlt .l 0xA6] [0xD9]
      [isPair .bc 0xA1A2, isPair .de 0xA3A4, isPair .hl 0xA5A6, isAlt .b 0x01, isAlt .c 0x02, isAlt .d 0x03, isAlt .e 0x04, isAlt .h 0x05, isAlt .l 0x06, isPc 0x0101])) = true := by decide +kernel

/-- R431, R432 (TL-46, TL-47 of 95_test_vectors.md). -/
theorem test_stack_top_exchange :
    ((ok [setPair .sp 0x7FFE, setPair .hl 0x1234, ram 0x7FFE 0x78, ram 0x7FFF 0x56] [0xE3]
      [isPair .hl 0x5678, isRam 0x7FFE 0x34, isRam 0x7FFF 0x12, isPair .sp 0x7FFE, isPc 0x0101]) &&
     (ok [setPair .sp 0x7FFE, setPair .ix 0x1234, ram 0x7FFE 0x78, ram 0x7FFF 0x56] [0xDD, 0xE3]
      [isPair .ix 0x5678, isRam 0x7FFE 0x34, isRam 0x7FFF 0x12, isPair .sp 0x7FFE, isPc 0x0102])) = true := by decide +kernel

/-- R450, R452 (TB-01, TB-02, TB-03 of 95_test_vectors.md). -/
theorem test_block_transfer :
    ((ok [setPair .hl 0x1000, setPair .de 0x2000, setPair .bc 0x0001, ram 0x1000 0xAA, setF true true true false true true] [0xED, 0xA0]
      [isPair .hl 0x1001, isPair .de 0x2001, isPair .bc 0x0000, isRam 0x2000 0xAA, isF true true false false false true, isPc 0x0102]) &&
     (ok [setPair .hl 0xFFFF, setPair .de 0xFFFF, setPair .bc 0x0000, ram 0xFFFF 0x5A] [0xED, 0xA0]
      [isPair .hl 0x0000, isPair .de 0x0000, isPair .bc 0xFFFF, isRam 0xFFFF 0x5A, fun s => s.reg.f.pv == true, isPc 0x0102]) &&
     (ok [setPair .hl 0x0000, setPair .de 0x0000, setPair .bc 0x0002, ram 0x0000 0x5A] [0xED, 0xA8]
      [isPair .hl 0xFFFF, isPair .de 0xFFFF, isPair .bc 0x0001, fun s => s.reg.f.pv == true, isPc 0x0102])) = true := by decide +kernel

/-- R454, R456 (TB-07, TB-08, TB-09 of 95_test_vectors.md). -/
theorem test_block_search :
    ((ok [setR .a 0x33, setPair .hl 0x1000, setPair .bc 0x0005, ram 0x1000 0x33, setF false false false false false true] [0xED, 0xA1]
      [isPair .hl 0x1001, isPair .bc 0x0004, isF false true false true true true, isPc 0x0102]) &&
     (ok [setR .a 0x10, setPair .hl 0x1000, setPair .bc 0x0001, ram 0x1000 0x21] [0xED, 0xA1]
      [isPair .hl 0x1001, isPair .bc 0x0000, isF true false true false true false, isPc 0x0102]) &&
     (ok [setR .a 0x80, setPair .hl 0x1000, setPair .bc 0x0002, ram 0x1000 0x01] [0xED, 0xA9]
      [isPair .hl 0x0FFF, isPair .bc 0x0001, isF false false true true true false, isPc 0x0102])) = true := by decide +kernel

/-- R504 (TA-01, TA-03, TA-02, TA-04, TA-05 of 95_test_vectors.md). -/
theorem test_add :
    ((ok [setR .a 0x7F, setR .b 0x01] [0x80]
      [isR .a 0x80, isF true false true true false false, isPc 0x0101]) &&
     (ok [setR .a 0x80] [0x87]
      [isR .a 0x00, isF false true false true false true, isPc 0x0101]) &&
     (ok [setR .a 0xFF] [0xC6, 0x01]
      [isR .a 0x00, isF false true true false false true, isPc 0x0102]) &&
     (ok [setR .a 0x0F, setPair .hl 0x4000, ram 0x4000 0x01, setF false false false false false true] [0x86]
      [isR .a 0x10, isF false false true false false false, isPc 0x0101]) &&
     (ok [setR .a 0x40, setPair .ix 0x4000, ram 0x4002 0x40] [0xDD, 0x86, 0x02]
      [isR .a 0x80, isF true false false true false false, isPc 0x0103])) = true := by decide +kernel

/-- R505 (TA-07, TA-08, TA-06 of 95_test_vectors.md). -/
theorem test_adc :
    ((ok [setR .a 0x7F, setR .b 0x00, setF false false false false false true] [0x88]
      [isR .a 0x80, isF true false true true false false, isPc 0x0101]) &&
     (ok [setR .a 0x80, setF false false false false false true] [0x8F]
      [isR .a 0x01, isF false false false true false true, isPc 0x0101]) &&
     (ok [setR .a 0xFF, setF false false false false false true] [0xCE, 0x00]
      [isR .a 0x00, isF false true true false false true, isPc 0x0102])) = true := by decide +kernel

/-- R506 (TA-09, TA-12, TA-10, TA-11 of 95_test_vectors.md). -/
theorem test_sub :
    ((ok [setR .a 0x5A] [0x97]
      [isR .a 0x00, isF false true false false true false, isPc 0x0101]) &&
     (ok [setR .a 0x7F, setR .b 0xFF] [0x90]
      [isR .a 0x80, isF true false false true true true, isPc 0x0101]) &&
     (ok [setR .a 0x80] [0xD6, 0x01]
      [isR .a 0x7F, isF false false true true true false, isPc 0x0102]) &&
     (ok [setR .a 0x00] [0xD6, 0x01]
      [isR .a 0xFF, isF true false true false true true, isPc 0x0102])) = true := by decide +kernel

/-- R507 (TA-14, TA-13, TA-15 of 95_test_vectors.md). -/
theorem test_sbc :
    ((ok [setR .a 0x42, setF false false false false false true] [0x9F]
      [isR .a 0xFF, isF true false true false true true, isPc 0x0101]) &&
     (ok [setR .a 0x00, setF false false false false false true] [0xDE, 0xFF]
      [isR .a 0x00, isF false true true false true true, isPc 0x0102]) &&
     (ok [setR .a 0x80, setF false false false false false true] [0xDE, 0x7F]
      [isR .a 0x00, isF false true true true true false, isPc 0x0102])) = true := by decide +kernel

/-- R508 (TA-17, TA-16 of 95_test_vectors.md). -/
theorem test_and :
    ((ok [setR .a 0xFF] [0xA7]
      [isR .a 0xFF, isF true false true true false false, isPc 0x0101]) &&
     (ok [setR .a 0xF0, setF false false false false true true] [0xE6, 0x0F]
      [isR .a 0x00, isF false true true true false false, isPc 0x0102])) = true := by decide +kernel

/-- R509 (TA-18, TA-19 of 95_test_vectors.md). -/
theorem test_or :
    ((ok [setR .a 0x00, setF false false true false true true] [0xB7]
      [isR .a 0x00, isF false true false true false false, isPc 0x0101]) &&
     (ok [setR .a 0x80] [0xF6, 0x01]
      [isR .a 0x81, isF true false false true false false, isPc 0x0102])) = true := by decide +kernel

/-- R510 (TA-20, TA-21 of 95_test_vectors.md). -/
theorem test_xor :
    ((ok [setR .a 0xC3, setF false false false false false true] [0xAF]
      [isR .a 0x00, isF false true false true false false, isPc 0x0101]) &&
     (ok [setR .a 0x55] [0xEE, 0xFF]
      [isR .a 0xAA, isF true false false true false false, isPc 0x0102])) = true := by decide +kernel

/-- R511 (TA-22, TA-23, TA-24, TA-25 of 95_test_vectors.md). -/
theorem test_cp :
    ((ok [setR .a 0x10] [0xFE, 0x10]
      [isR .a 0x10, isF false true false false true false, isPc 0x0102]) &&
     (ok [setR .a 0x10] [0xFE, 0x20]
      [isR .a 0x10, isF true false false false true true, isPc 0x0102]) &&
     (ok [setR .a 0x80, setPair .hl 0x4000, ram 0x4000 0x01] [0xBE]
      [isR .a 0x80, isF false false true true true false, isPc 0x0101]) &&
     (ok [setR .a 0x00, setPair .iy 0x4000, ram 0x3FFF 0x80] [0xFD, 0xBE, 0xFF]
      [isR .a 0x00, isF true false false true true true, isPc 0x0103])) = true := by decide +kernel

/-- R512 (TA-26, TA-27, TA-28, TA-29 of 95_test_vectors.md). -/
theorem test_inc_byte :
    ((ok [setR .a 0x7F, setF false false false false false true] [0x3C]
      [isR .a 0x80, isF true false true true false true, isPc 0x0101]) &&
     (ok [setR .b 0xFF] [0x04]
      [isR .b 0x00, isF false true true false false false, isPc 0x0101]) &&
     (ok [setPair .hl 0x4000, ram 0x4000 0x0F, setF false false false false true false] [0x34]
      [isRam 0x4000 0x10, isF false false true false false false, isPc 0x0101]) &&
     (ok [setPair .ix 0x4000, ram 0x4001 0xFF, setF false false false false false true] [0xDD, 0x34, 0x01]
      [isRam 0x4001 0x00, isF false true true false false true, isPc 0x0103])) = true := by decide +kernel

/-- R513 (TA-30, TA-31, TA-33, TA-34 of 95_test_vectors.md). -/
theorem test_dec_byte :
    ((ok [setR .a 0x80] [0x3D]
      [isR .a 0x7F, isF false false true true true false, isPc 0x0101]) &&
     (ok [setR .b 0x00, setF false false false false false true] [0x05]
      [isR .b 0xFF, isF true false true false true true, isPc 0x0101]) &&
     (ok [setPair .hl 0x4000, ram 0x4000 0x10] [0x35]
      [isRam 0x4000 0x0F, isF false false true false true false, isPc 0x0101]) &&
     (ok [setPair .iy 0x4000, ram 0x4000 0x01] [0xFD, 0x35, 0x00]
      [isRam 0x4000 0x00, isF false true false false true false, isPc 0x0103])) = true := by decide +kernel

/-- R514, R515 (TA-35, TA-36, TA-38 of 95_test_vectors.md). -/
theorem test_neg_cpl :
    ((ok [setR .a 0x01] [0xED, 0x44]
      [isR .a 0xFF, isF true false true false true true, isPc 0x0102]) &&
     (ok [setR .a 0x00, setF false false false false false true] [0xED, 0x44]
      [isR .a 0x00, isF false true false false true false, isPc 0x0102]) &&
     (ok [setR .a 0x5A, setF true false false false false true] [0x2F]
      [isR .a 0xA5, isF true false true false true true, isPc 0x0101])) = true := by decide +kernel

/-- R517, R518 (TA-39, TA-40, TA-41 of 95_test_vectors.md). -/
theorem test_ccf_scf :
    ((ok [setF false false false false true true] [0x3F]
      [isF false false true false false false, isPc 0x0101]) &&
     (ok [setF false false true false false false] [0x3F]
      [isF false false false false false true, isPc 0x0101]) &&
     (ok [setF false true true false true false] [0x37]
      [isF false true false false false true, isPc 0x0101])) = true := by decide +kernel

/-- R519 (TA-43, TA-42, TA-44 of 95_test_vectors.md). -/
theorem test_tst :
    ((ok [setR .a 0x0F, setR .b 0xF0] [0xED, 0x04]
      [isR .a 0x0F, isR .b 0xF0, isF false true true true false false, isPc 0x0102]) &&
     (ok [setR .a 0x81, setF false false false false false true] [0xED, 0x64, 0x80]
      [isR .a 0x81, isF true false true false false false, isPc 0x0103]) &&
     (ok [setR .a 0xFF, setPair .hl 0x4000, ram 0x4000 0x03] [0xED, 0x34]
      [isR .a 0xFF, isF false false true true false false, isPc 0x0102])) = true := by decide +kernel

/-- R520 (TA-45, TA-46 of 95_test_vectors.md). -/
theorem test_mlt :
    ((ok [setPair .bc 0x0C0A] [0xED, 0x4C]
      [isPair .bc 0x0078, isPc 0x0102]) &&
     (ok [setPair .de 0xFFFF, setF true true false false false true] [0xED, 0x5C]
      [isPair .de 0xFE01, fun s => s.reg.f.s == true, fun s => s.reg.f.z == true, fun s => s.reg.f.c == true, isPc 0x0102])) = true := by decide +kernel

/-- R560, R561 (TW-01, TW-02, TW-04, TW-05, TW-06 of 95_test_vectors.md). -/
theorem test_add_word :
    ((ok [setPair .hl 0x0FFF, setPair .bc 0x0001, setF true true false true true false] [0x09]
      [isPair .hl 0x1000, isF true true true true false false, isPc 0x0101]) &&
     (ok [setPair .hl 0x8000] [0x29]
      [isPair .hl 0x0000, fun s => s.reg.f.h == false, fun s => s.reg.f.n == false, fun s => s.reg.f.c == true, isPc 0x0101]) &&
     (ok [setPair .ix 0x8000, setPair .de 0x8000] [0xDD, 0x19]
      [isPair .ix 0x0000, fun s => s.reg.f.z == false, fun s => s.reg.f.h == false, fun s => s.reg.f.n == false, fun s => s.reg.f.c == true, isPc 0x0102]) &&
     (ok [setPair .ix 0x1234, setPair .hl 0x1111] [0xDD, 0x29]
      [isPair .ix 0x2468, isPair .hl 0x1111, fun s => s.reg.f.h == false, fun s => s.reg.f.c == false, isPc 0x0102]) &&
     (ok [setPair .iy 0x0F00, setPair .sp 0x0100] [0xFD, 0x39]
      [isPair .iy 0x1000, fun s => s.reg.f.h == true, fun s => s.reg.f.c == false, isPc 0x0102])) = true := by decide +kernel

/-- R562 (TW-07, TW-08 of 95_test_vectors.md). -/
theorem test_adc_word :
    ((ok [setPair .hl 0x1234, setPair .de 0x1111, setF false false false false false true] [0xED, 0x5A]
      [isPair .hl 0x2346, isF false false false false false false, isPc 0x0102]) &&
     (ok [setPair .hl 0x7FFF, setPair .bc 0x0000, setF false false false false false true] [0xED, 0x4A]
      [isPair .hl 0x8000, isF true false true true false false, isPc 0x0102])) = true := by decide +kernel

/-- R563 (TW-11, TW-12 of 95_test_vectors.md). -/
theorem test_sbc_word :
    ((ok [setPair .hl 0x1000, setPair .bc 0x0001] [0xED, 0x42]
      [isPair .hl 0x0FFF, isF false false true false true false, isPc 0x0102]) &&
     (ok [setPair .hl 0x1234] [0xED, 0x62]
      [isPair .hl 0x0000, isF false true false false true false, isPc 0x0102])) = true := by decide +kernel

/-- R564, R565, R566, R567 (TW-16, TW-17, TW-18, TW-19, TW-20, TW-21 of 95_test_vectors.md). -/
theorem test_inc_dec_word :
    ((ok [setPair .bc 0xFFFF] [0x03]
      [isPair .bc 0x0000, fun s => s.reg.f.z == false, isPc 0x0101]) &&
     (ok [setPair .sp 0x7FFF] [0x33]
      [isPair .sp 0x8000, isPc 0x0101]) &&
     (ok [setPair .iy 0xFFFF] [0xFD, 0x23]
      [isPair .iy 0x0000, isPc 0x0102]) &&
     (ok [setPair .bc 0x0000] [0x0B]
      [isPair .bc 0xFFFF, fun s => s.reg.f.s == false, isPc 0x0101]) &&
     (ok [setPair .hl 0x0100] [0x2B]
      [isPair .hl 0x00FF, isPc 0x0101]) &&
     (ok [setPair .ix 0x0000] [0xDD, 0x2B]
      [isPair .ix 0xFFFF, isPc 0x0102])) = true := by decide +kernel

/-- R600, R601, R602, R603 (TR-01, TR-02, TR-03, TR-04, TR-05, TR-06 of 95_test_vectors.md). -/
theorem test_accumulator_rotates :
    ((ok [setR .a 0x81, setF true true true true true false] [0x07]
      [isR .a 0x03, isF true true false true false true, isPc 0x0101]) &&
     (ok [setR .a 0x80] [0x17]
      [isR .a 0x00, fun s => s.reg.f.z == false, fun s => s.reg.f.c == true, isPc 0x0101]) &&
     (ok [setR .a 0x01, setF false false false false false true] [0x17]
      [isR .a 0x03, fun s => s.reg.f.c == false, isPc 0x0101]) &&
     (ok [setR .a 0x01] [0x0F]
      [isR .a 0x80, fun s => s.reg.f.c == true, isPc 0x0101]) &&
     (ok [setR .a 0x01] [0x1F]
      [isR .a 0x00, fun s => s.reg.f.c == true, isPc 0x0101]) &&
     (ok [setR .a 0x00, setF false false false false false true] [0x1F]
      [isR .a 0x80, fun s => s.reg.f.c == false, isPc 0x0101])) = true := by decide +kernel

/-- R605, R606, R607, R608 (TR-07, TR-08, TR-10, TR-11, TR-09, TR-12, TR-13 of 95_test_vectors.md). -/
theorem test_rotates :
    ((ok [setR .b 0x80] [0xCB, 0x00]
      [isR .b 0x01, isF false false false false false true, isPc 0x0102]) &&
     (ok [setR .a 0x00, setF false false false false false true] [0xCB, 0x07]
      [isR .a 0x00, isF false true false true false false, isPc 0x0102]) &&
     (ok [setR .d 0x80, setF false false false false false true] [0xCB, 0x12]
      [isR .d 0x01, isF false false false false false true, isPc 0x0102]) &&
     (ok [setPair .hl 0x4000, ram 0x4000 0x80] [0xCB, 0x16]
      [isRam 0x4000 0x00, isF false true false true false true, isPc 0x0102]) &&
     (ok [setR .c 0x01] [0xCB, 0x09]
      [isR .c 0x80, isF true false false false false true, isPc 0x0102]) &&
     (ok [setR .e 0x01] [0xCB, 0x1B]
      [isR .e 0x00, isF false true false true false true, isPc 0x0102]) &&
     (ok [setPair .ix 0x2000, ram 0x2003 0x03] [0xDD, 0xCB, 0x03, 0x1E]
      [isRam 0x2003 0x01, isPc 0x0104, isF false false false false false true])) = true := by decide +kernel

/-- R609, R610, R611 (TR-14, TR-19, TR-15, TR-16, TR-17, TR-18 of 95_test_vectors.md). -/
theorem test_shifts :
    ((ok [setR .h 0xFF] [0xCB, 0x24]
      [isR .h 0xFE, isF true false false false false true, isPc 0x0102]) &&
     (ok [setPair .iy 0x3001, ram 0x2FFF 0x40] [0xFD, 0xCB, 0xFE, 0x26]
      [isRam 0x2FFF 0x80, isF true false false false false false, isPc 0x0104]) &&
     (ok [setR .l 0x81] [0xCB, 0x2D]
      [isR .l 0xC0, isF true false false true false true, isPc 0x0102]) &&
     (ok [setR .a 0x7E] [0xCB, 0x2F]
      [isR .a 0x3F, isF false false false true false false, isPc 0x0102]) &&
     (ok [setR .a 0x01] [0xCB, 0x3F]
      [isR .a 0x00, isF false true false true false true, isPc 0x0102]) &&
     (ok [setR .b 0xFF] [0xCB, 0x38]
      [isR .b 0x7F, isF false false false false false true, isPc 0x0102])) = true := by decide +kernel

/-- R612, R613 (TR-20, TR-22, TR-21 of 95_test_vectors.md). -/
theorem test_digit_rotates :
    ((ok [setR .a 0x7A, setPair .hl 0x5000, ram 0x5000 0x31, setF false false false false false true] [0xED, 0x6F]
      [isR .a 0x73, isRam 0x5000 0x1A, isF false false false false false true, isPc 0x0102]) &&
     (ok [setR .a 0x00, setPair .hl 0x5000, ram 0x5000 0x0F] [0xED, 0x6F]
      [isR .a 0x00, isRam 0x5000 0xF0, isF false true false true false false, isPc 0x0102]) &&
     (ok [setR .a 0x84, setPair .hl 0x5000, ram 0x5000 0x20] [0xED, 0x67]
      [isR .a 0x80, isRam 0x5000 0x42, isF true false false false false false, isPc 0x0102])) = true := by decide +kernel

/-- R614 (TR-23, TR-24, TR-25, TR-26 of 95_test_vectors.md). -/
theorem test_bit :
    ((ok [setR .a 0x80, setF false false false true false true] [0xCB, 0x7F]
      [isR .a 0x80, isF false false true true false true, isPc 0x0102]) &&
     (ok [setR .a 0x80] [0xCB, 0x47]
      [fun s => s.reg.f.z == true, fun s => s.reg.f.h == true, fun s => s.reg.f.n == false, isPc 0x0102]) &&
     (ok [setPair .hl 0x4000, ram 0x4000 0x08] [0xCB, 0x5E]
      [isRam 0x4000 0x08, fun s => s.reg.f.z == false, fun s => s.reg.f.h == true, isPc 0x0102]) &&
     (ok [setPair .ix 0x4000, ram 0x4010 0xBF] [0xDD, 0xCB, 0x10, 0x76]
      [isRam 0x4010 0xBF, isPc 0x0104, fun s => s.reg.f.z == true, fun s => s.reg.f.h == true, fun s => s.reg.f.n == false])) = true := by decide +kernel

/-- R615, R616 (TR-27, TR-28, TR-29, TR-30, TR-31, TR-32 of 95_test_vectors.md). -/
theorem test_set_res :
    ((ok [setR .b 0x00, setF false true false false false false] [0xCB, 0xC0]
      [isR .b 0x01, fun s => s.reg.f.z == true, isPc 0x0102]) &&
     (ok [setPair .hl 0x4000] [0xCB, 0xDE]
      [isRam 0x4000 0x08, isPc 0x0102]) &&
     (ok [setPair .iy 0x4000, ram 0x4000 0x7F] [0xFD, 0xCB, 0x00, 0xFE]
      [isRam 0x4000 0xFF, isPc 0x0104]) &&
     (ok [setR .a 0xFF] [0xCB, 0xBF]
      [isR .a 0x7F, isPc 0x0102]) &&
     (ok [setPair .hl 0x4000, ram 0x4000 0x01] [0xCB, 0x86]
      [isRam 0x4000 0x00, isPc 0x0102]) &&
     (ok [setPair .iy 0x3000, ram 0x2FFF 0xFF] [0xFD, 0xCB, 0xFF, 0xBE]
      [isRam 0x2FFF 0x7F, isPc 0x0104])) = true := by decide +kernel

/-- R701, R702, R703 (TC-01, TC-02, TC-08, TC-10, TC-11 of 95_test_vectors.md). -/
theorem test_jumps :
    ((ok [] [0xC3, 0x00, 0x80]
      [isPc 0x8000]) &&
     (ok [setF false true false false false false] [0xCA, 0x34, 0x12]
      [isPc 0x1234]) &&
     (ok [setF false false false false false true] [0xD2, 0x00, 0x90]
      [isPc 0x0103]) &&
     (ok [setPair .hl 0x4000, ram 0x4000 0xFF] [0xE9]
      [isPc 0x4000]) &&
     (ok [setPair .ix 0x1235] [0xDD, 0xE9]
      [isPc 0x1235])) = true := by decide +kernel

/-- R704, R705, R706 (TC-13, TC-14, TC-17, TC-18, TC-22, TC-23 of 95_test_vectors.md). -/
theorem test_relative_jumps :
    ((ok [] [0x18, 0xFE]
      [isPc 0x0100]) &&
     (ok [] [0x18, 0x80]
      [isPc 0x0082]) &&
     (ok [setF false false false false false true] [0x38, 0x10]
      [isPc 0x0112]) &&
     (ok [] [0x38, 0x10]
      [isPc 0x0102]) &&
     (ok [setR .b 0x02, setF false true false false false false] [0x10, 0xFE]
      [isR .b 0x01, isPc 0x0100, fun s => s.reg.f.z == true]) &&
     (ok [setR .b 0x01] [0x10, 0xFE]
      [isR .b 0x00, isPc 0x0102])) = true := by decide +kernel

/-- R707, R708, R713 (TC-25, TC-27, TC-28, TC-37, TC-38 of 95_test_vectors.md). -/
theorem test_calls :
    ((ok [] [0xCD, 0x00, 0x20]
      [isPc 0x2000, isPair .sp 0x7FFE, isRam 0x7FFF 0x01, isRam 0x7FFE 0x03]) &&
     (ok [] [0xDC, 0x00, 0x20]
      [isPc 0x0103, isPair .sp 0x8000]) &&
     (ok [setF false false false false false true] [0xDC, 0x00, 0x20]
      [isPc 0x2000, isPair .sp 0x7FFE, isRam 0x7FFF 0x01, isRam 0x7FFE 0x03]) &&
     (ok [] [0xC7]
      [isPc 0x0000, isPair .sp 0x7FFE, isRam 0x7FFF 0x01, isRam 0x7FFE 0x01]) &&
     (ok [] [0xFF]
      [isPc 0x0038, isPair .sp 0x7FFE, isRam 0x7FFF 0x01, isRam 0x7FFE 0x01])) = true := by decide +kernel

/-- R709, R710, R711, R712 (TC-30, TC-31, TC-32, TC-34, TC-35, TC-36 of 95_test_vectors.md). -/
theorem test_returns :
    ((ok [setPair .sp 0x7FFE, ram 0x7FFE 0x03, ram 0x7FFF 0x01] [0xC9]
      [isPc 0x0103, isPair .sp 0x8000]) &&
     (ok [setPair .sp 0x7FFE, ram 0x7FFE 0x03, ram 0x7FFF 0x01, setF true false false false false false] [0xF8]
      [isPc 0x0103, isPair .sp 0x8000]) &&
     (ok [setPair .sp 0x7FFE, ram 0x7FFE 0x03, ram 0x7FFF 0x01] [0xF8]
      [isPc 0x0101, isPair .sp 0x7FFE]) &&
     (ok [setPair .sp 0x7FFE, ram 0x7FFE 0x34, ram 0x7FFF 0x12, setIff1 false, setIff2 false] [0xED, 0x4D]
      [isPc 0x1234, isPair .sp 0x8000, fun s => s.iff1 == false, fun s => s.iff2 == false]) &&
     (ok [setPair .sp 0x7FFE, ram 0x7FFE 0x21, ram 0x7FFF 0x43, setIff1 false, setIff2 true] [0xED, 0x45]
      [isPc 0x4321, isPair .sp 0x8000, fun s => s.iff1 == true, fun s => s.iff2 == true]) &&
     (ok [setPair .sp 0x7FFE, ram 0x7FFE 0x21, ram 0x7FFF 0x43, setIff1 true, setIff2 false] [0xED, 0x45]
      [isPc 0x4321, isPair .sp 0x8000, fun s => s.iff1 == false, fun s => s.iff2 == false])) = true := by decide +kernel

/-- R760, R761, R762, R778 (TI-01, TI-02, TI-03, TI-04, TI-08, TI-09 of 95_test_vectors.md). -/
theorem test_inputs :
    ((ok [setR .a 0x12, setF false true false false false false, announce [0x5A]] [0xDB, 0x34]
      [isR .a 0x5A, fun s => s.reg.f.z == true, isBus [.ioRead 0x1234 0x5A], isPc 0x0102]) &&
     (ok [setPair .bc 0x0180, setF false false false false false true, announce [0x00]] [0xED, 0x78]
      [isR .a 0x00, isF false true false true false true, isBus [.ioRead 0x0180 0x00], isPc 0x0102]) &&
     (ok [setPair .bc 0xFF10, announce [0x80]] [0xED, 0x40]
      [isR .b 0x80, isR .c 0x10, fun s => s.reg.f.s == true, fun s => s.reg.f.z == false, fun s => s.reg.f.pv == false, isBus [.ioRead 0xFF10 0x80], isPc 0x0102]) &&
     (ok [setR .b 0x77, announce [0x81]] [0xED, 0x38, 0x40]
      [isR .a 0x81, fun s => s.reg.f.s == true, fun s => s.reg.f.z == false, fun s => s.reg.f.h == false, fun s => s.reg.f.pv == true, fun s => s.reg.f.n == false, isBus [.ioRead 0x0040 0x81], isPc 0x0103]) &&
     (ok [setR .b 0x99, setR .c 0x20, setF false false false false false true, announce [0xF0]] [0xED, 0x74, 0x0F]
      [isF false true true true false false, isBus [.ioRead 0x0020 0xF0], isPc 0x0103]) &&
     (ok [setR .c 0x20, announce [0x90]] [0xED, 0x74, 0xF0]
      [isF true false true true false false, isBus [.ioRead 0x0020 0x90], isPc 0x0103])) = true := by decide +kernel

/-- R763, R764, R765 (TI-05, TI-06, TI-07 of 95_test_vectors.md). -/
theorem test_outputs :
    ((ok [setR .a 0x12] [0xD3, 0x34]
      [isBus [.ioWrite 0x1234 0x12], isPc 0x0102]) &&
     (ok [setPair .bc 0x0180, setR .a 0xFF] [0xED, 0x79]
      [isBus [.ioWrite 0x0180 0xFF], isPc 0x0102]) &&
     (ok [setR .b 0x55] [0xED, 0x01, 0x10]
      [isBus [.ioWrite 0x0010 0x55], isPc 0x0103])) = true := by decide +kernel

/-- R766, R768 (TI-10, TI-11 of 95_test_vectors.md). -/
theorem test_block_input :
    ((ok [setPair .bc 0x0240, setPair .hl 0x6000, setF true false true true false true, announce [0x99]] [0xED, 0xA2]
      [isR .b 0x01, isPair .hl 0x6001, isRam 0x6000 0x99, isF true false true true true true, isBus [.ioRead 0x0240 0x99], isPc 0x0102]) &&
     (ok [setPair .bc 0x0140, setPair .hl 0x6000, announce [0x7E]] [0xED, 0xAA]
      [isR .b 0x00, isPair .hl 0x5FFF, isRam 0x6000 0x7E, fun s => s.reg.f.z == true, fun s => s.reg.f.n == true, isBus [.ioRead 0x0140 0x7E], isPc 0x0102])) = true := by decide +kernel

/-- R770, R772 (TI-14, TI-15 of 95_test_vectors.md). -/
theorem test_block_output :
    ((ok [setPair .bc 0x0240, setPair .hl 0x6000, ram 0x6000 0x3C] [0xED, 0xA3]
      [isR .b 0x01, isPair .hl 0x6001, fun s => s.reg.f.z == false, fun s => s.reg.f.n == true, isBus [.ioWrite 0x0240 0x3C], isPc 0x0102]) &&
     (ok [setPair .bc 0x0140, setPair .hl 0x6000, ram 0x6000 0x01] [0xED, 0xAB]
      [isR .b 0x00, isPair .hl 0x5FFF, fun s => s.reg.f.z == true, fun s => s.reg.f.n == true, isBus [.ioWrite 0x0140 0x01], isPc 0x0102])) = true := by decide +kernel

/-- R774, R776 (TI-18, TI-20, TI-19 of 95_test_vectors.md). -/
theorem test_otim_otdm :
    ((ok [setR .b 0x10, setR .c 0x30, setPair .hl 0x6000, ram 0x6000 0x80, setF false false false false false true] [0xED, 0x83]
      [isR .b 0x0F, isR .c 0x31, isPair .hl 0x6001, isF false false true true true true, isBus [.ioWrite 0x0030 0x80], isPc 0x0102]) &&
     (ok [setR .b 0x00, setR .c 0xFF, setPair .hl 0x6000, ram 0x6000 0x01] [0xED, 0x83]
      [isR .b 0xFF, isR .c 0x00, isPair .hl 0x6001, isF true false true true false false, isBus [.ioWrite 0x00FF 0x01], isPc 0x0102]) &&
     (ok [setR .b 0x01, setR .c 0x00, setPair .hl 0x6000, ram 0x6000 0x7F] [0xED, 0x8B]
      [isR .b 0x00, isR .c 0xFF, isPair .hl 0x5FFF, isF false true false true false false, isBus [.ioWrite 0x0000 0x7F], isPc 0x0102])) = true := by decide +kernel

/-- R830, R831, R832, R833, R834, R835 (TS-01, TS-02, TS-03, TS-04, TS-05, TS-06, TS-07, TS-08 of 95_test_vectors.md). -/
theorem test_cpu_control :
    ((ok [setF true false false false false true] [0x00]
      [isPc 0x0101, fun s => s.reg.f.s == true, fun s => s.reg.f.c == true]) &&
     (ok [] [0x76]
      [isPc 0x0101, fun s => s.run == .halted]) &&
     (ok [] [0xED, 0x76]
      [isPc 0x0102, fun s => s.run == .sleeping]) &&
     (ok [setIff1 true, setIff2 true] [0xF3]
      [fun s => s.iff1 == false, fun s => s.iff2 == false, isPc 0x0101]) &&
     (ok [setIff1 false, setIff2 false] [0xFB]
      [fun s => s.iff1 == true, fun s => s.iff2 == true, isPc 0x0101]) &&
     (ok [setIm .im2] [0xED, 0x46]
      [fun s => s.im == .im0, isPc 0x0102]) &&
     (ok [setIm .im0] [0xED, 0x56]
      [fun s => s.im == .im1, isPc 0x0102]) &&
     (ok [setIm .im0] [0xED, 0x5E]
      [fun s => s.im == .im2, isPc 0x0102])) = true := by decide +kernel

/-- R516, the addition half of the table (TD-01, TD-02, TD-03, TD-04, TD-05, TD-06, TD-07, TD-08, TD-09, TD-10, TD-11 of 95_test_vectors.md). -/
theorem test_daa_after_addition :
    ((ok [setR .a 0x42] [0x27]
      [isR .a 0x42, fun s => s.reg.f.s == false, fun s => s.reg.f.z == false, fun s => s.reg.f.pv == true, fun s => s.reg.f.n == false, fun s => s.reg.f.c == false, isPc 0x0101]) &&
     (ok [setR .a 0x3C] [0x27]
      [isR .a 0x42, fun s => s.reg.f.s == false, fun s => s.reg.f.z == false, fun s => s.reg.f.pv == true, fun s => s.reg.f.n == false, fun s => s.reg.f.c == false, isPc 0x0101]) &&
     (ok [setR .a 0x41, setF false false true false false false] [0x27]
      [isR .a 0x47, fun s => s.reg.f.s == false, fun s => s.reg.f.z == false, fun s => s.reg.f.pv == true, fun s => s.reg.f.n == false, fun s => s.reg.f.c == false, isPc 0x0101]) &&
     (ok [setR .a 0xA5] [0x27]
      [isR .a 0x05, fun s => s.reg.f.s == false, fun s => s.reg.f.z == false, fun s => s.reg.f.pv == true, fun s => s.reg.f.n == false, fun s => s.reg.f.c == true, isPc 0x0101]) &&
     (ok [setR .a 0x9A] [0x27]
      [isR .a 0x00, fun s => s.reg.f.s == false, fun s => s.reg.f.z == true, fun s => s.reg.f.pv == true, fun s => s.reg.f.n == false, fun s => s.reg.f.c == true, isPc 0x0101]) &&
     (ok [setR .a 0xB2, setF false false true false false false] [0x27]
      [isR .a 0x18, fun s => s.reg.f.s == false, fun s => s.reg.f.z == false, fun s => s.reg.f.pv == true, fun s => s.reg.f.n == false, fun s => s.reg.f.c == true, isPc 0x0101]) &&
     (ok [setR .a 0x15, setF false false false false false true] [0x27]
      [isR .a 0x75, fun s => s.reg.f.s == false, fun s => s.reg.f.z == false, fun s => s.reg.f.pv == false, fun s => s.reg.f.n == false, fun s => s.reg.f.c == true, isPc 0x0101]) &&
     (ok [setR .a 0x1B, setF false false false false false true] [0x27]
      [isR .a 0x81, fun s => s.reg.f.s == true, fun s => s.reg.f.z == false, fun s => s.reg.f.pv == true, fun s => s.reg.f.n == false, fun s => s.reg.f.c == true, isPc 0x0101]) &&
     (ok [setR .a 0x32, setF false false true false false true] [0x27]
      [isR .a 0x98, fun s => s.reg.f.s == true, fun s => s.reg.f.z == false, fun s => s.reg.f.pv == false, fun s => s.reg.f.n == false, fun s => s.reg.f.c == true, isPc 0x0101]) &&
     (ok [setR .a 0x00] [0x27]
      [isR .a 0x00, fun s => s.reg.f.s == false, fun s => s.reg.f.z == true, fun s => s.reg.f.pv == true, fun s => s.reg.f.n == false, fun s => s.reg.f.c == false, isPc 0x0101]) &&
     (ok [setR .a 0x99] [0x27]
      [isR .a 0x99, fun s => s.reg.f.s == true, fun s => s.reg.f.z == false, fun s => s.reg.f.pv == true, fun s => s.reg.f.n == false, fun s => s.reg.f.c == false, isPc 0x0101])) = true := by decide +kernel

/-- R516, the subtraction half of the table (TD-12, TD-13, TD-14, TD-15, TD-16, TD-17, TD-18 of 95_test_vectors.md). -/
theorem test_daa_after_subtraction :
    ((ok [setR .a 0x27, setF false false false false true false] [0x27]
      [isR .a 0x27, fun s => s.reg.f.s == false, fun s => s.reg.f.z == false, fun s => s.reg.f.pv == true, fun s => s.reg.f.n == true, fun s => s.reg.f.c == false, isPc 0x0101]) &&
     (ok [setR .a 0x0F, setF false false true false true false] [0x27]
      [isR .a 0x09, fun s => s.reg.f.s == false, fun s => s.reg.f.z == false, fun s => s.reg.f.pv == true, fun s => s.reg.f.n == true, fun s => s.reg.f.c == false, isPc 0x0101]) &&
     (ok [setR .a 0x8E, setF false false true false true false] [0x27]
      [isR .a 0x88, fun s => s.reg.f.s == true, fun s => s.reg.f.z == false, fun s => s.reg.f.pv == true, fun s => s.reg.f.n == true, fun s => s.reg.f.c == false, isPc 0x0101]) &&
     (ok [setR .a 0x73, setF false false false false true true] [0x27]
      [isR .a 0x13, fun s => s.reg.f.s == false, fun s => s.reg.f.z == false, fun s => s.reg.f.pv == false, fun s => s.reg.f.n == true, fun s => s.reg.f.c == true, isPc 0x0101]) &&
     (ok [setR .a 0xF9, setF false false false false true true] [0x27]
      [isR .a 0x99, fun s => s.reg.f.s == true, fun s => s.reg.f.z == false, fun s => s.reg.f.pv == true, fun s => s.reg.f.n == true, fun s => s.reg.f.c == true, isPc 0x0101]) &&
     (ok [setR .a 0x6B, setF false false true false true true] [0x27]
      [isR .a 0x05, fun s => s.reg.f.s == false, fun s => s.reg.f.z == false, fun s => s.reg.f.pv == true, fun s => s.reg.f.n == true, fun s => s.reg.f.c == true, isPc 0x0101]) &&
     (ok [setR .a 0xFF, setF false false true false true true] [0x27]
      [isR .a 0x99, fun s => s.reg.f.s == true, fun s => s.reg.f.z == false, fun s => s.reg.f.pv == true, fun s => s.reg.f.n == true, fun s => s.reg.f.c == true, isPc 0x0101])) = true := by decide +kernel

/-! ## Operand forms without a vector: the numbers of a vector of another form, by hand -/

/-- R505 to R511, the (HL) and index forms (numbers of TA-07, TA-10, TA-13, TA-16, TA-19, TA-21, TA-12). -/
theorem test_accumulator_memory_forms :
    ((ok [setR .a 0x7F, setPair .hl 0x4000, setF false false false false false true] [0x8E]
      [isR .a 0x80, isF true false true true false false, isPc 0x0101]) &&
     (ok [setR .a 0x7F, setPair .ix 0x4000, setF false false false false false true] [0xDD, 0x8E, 0x05]
      [isR .a 0x80, isF true false true true false false, isPc 0x0103]) &&
     (ok [setR .a 0x80, setPair .hl 0x4000, ram 0x4000 0x01] [0x96]
      [isR .a 0x7F, isF false false true true true false, isPc 0x0101]) &&
     (ok [setR .a 0x80, setPair .iy 0x4000, ram 0x3FFF 0x01] [0xFD, 0x96, 0xFF]
      [isR .a 0x7F, isF false false true true true false, isPc 0x0103]) &&
     (ok [setR .a 0x00, setPair .hl 0x4000, ram 0x4000 0xFF, setF false false false false false true] [0x9E]
      [isR .a 0x00, isF false true true false true true]) &&
     (ok [setR .a 0x00, setPair .ix 0x4000, ram 0x407F 0xFF, setF false false false false false true]
      [0xDD, 0x9E, 0x7F] [isR .a 0x00, isF false true true false true true]) &&
     (ok [setR .a 0xF0, setPair .hl 0x4000, ram 0x4000 0x0F] [0xA6]
      [isR .a 0x00, isF false true true true false false]) &&
     (ok [setR .a 0xF0, setPair .iy 0x4000, ram 0x4001 0x0F] [0xFD, 0xA6, 0x01]
      [isR .a 0x00, isF false true true true false false]) &&
     (ok [setR .a 0x80, setPair .hl 0x4000, ram 0x4000 0x01] [0xB6]
      [isR .a 0x81, isF true false false true false false]) &&
     (ok [setR .a 0x80, setPair .ix 0x4000, ram 0x4001 0x01] [0xDD, 0xB6, 0x01]
      [isR .a 0x81, isF true false false true false false]) &&
     (ok [setR .a 0x55, setPair .hl 0x4000, ram 0x4000 0xFF] [0xAE]
      [isR .a 0xAA, isF true false false true false false]) &&
     (ok [setR .a 0x55, setPair .iy 0x4000, ram 0x4001 0xFF] [0xFD, 0xAE, 0x01]
      [isR .a 0xAA, isF true false false true false false]) &&
     (ok [setR .a 0x7F, setR .b 0xFF] [0xB8]
      [isR .a 0x7F, isF true false false true true true])) = true := by decide +kernel

/-- R605 to R611, the memory forms (numbers of TR-07, TR-09, TR-10, TR-12, TR-14, TR-15, TR-17). -/
theorem test_shift_memory_forms :
    ((ok [setPair .hl 0x4000, ram 0x4000 0x80] [0xCB, 0x06]
      [isRam 0x4000 0x01, isF false false false false false true, isPc 0x0102]) &&
     (ok [setPair .iy 0x4000, ram 0x4005 0x80] [0xFD, 0xCB, 0x05, 0x06]
      [isRam 0x4005 0x01, isF false false false false false true, isPc 0x0104]) &&
     (ok [setPair .hl 0x4000, ram 0x4000 0x01] [0xCB, 0x0E]
      [isRam 0x4000 0x80, isF true false false false false true]) &&
     (ok [setPair .ix 0x4000, ram 0x3FFF 0x01] [0xDD, 0xCB, 0xFF, 0x0E]
      [isRam 0x3FFF 0x80, isF true false false false false true]) &&
     (ok [setPair .ix 0x4000, ram 0x4001 0x80, setF false false false false false true] [0xDD, 0xCB, 0x01, 0x16]
      [isRam 0x4001 0x01, isF false false false false false true]) &&
     (ok [setPair .hl 0x4000, ram 0x4000 0x01] [0xCB, 0x1E]
      [isRam 0x4000 0x00, isF false true false true false true]) &&
     (ok [setPair .hl 0x4000, ram 0x4000 0xFF] [0xCB, 0x26]
      [isRam 0x4000 0xFE, isF true false false false false true]) &&
     (ok [setPair .hl 0x4000, ram 0x4000 0x81] [0xCB, 0x2E]
      [isRam 0x4000 0xC0, isF true false false true false true]) &&
     (ok [setPair .iy 0x4000, ram 0x4001 0x81] [0xFD, 0xCB, 0x01, 0x2E]
      [isRam 0x4001 0xC0, isF true false false true false true]) &&
     (ok [setPair .hl 0x4000, ram 0x4000 0x01] [0xCB, 0x3E]
      [isRam 0x4000 0x00, isF false true false true false true]) &&
     (ok [setPair .ix 0x4000, ram 0x4001 0x01] [0xDD, 0xCB, 0x01, 0x3E]
      [isRam 0x4001 0x00, isF false true false true false true])) = true := by decide +kernel

/-! ## Repeating instructions: a first iteration and a last one (R458) -/

def holding (i : Instr) (s : State) : Bool := s.repeating == some i && s.pc == 0x0100
def completed (s : State) : Bool := s.repeating == none && s.pc == 0x0102

/-- R451, R453: the first iteration of TB-04 and TB-06, and the last of TB-04 and of LDDR. -/
theorem test_ldir_lddr :
    ((ok [setPair .hl 0x1000, setPair .de 0x2000, setPair .bc 3, ram 0x1000 0x11] [0xED, 0xB0]
      [isPair .hl 0x1001, isPair .de 0x2001, isPair .bc 2, isRam 0x2000 0x11, holding .ldir,
        isF false false false true false false]) &&
     (ok [setPair .hl 0x1002, setPair .de 0x2002, setPair .bc 1, ram 0x1002 0x33] [0xED, 0xB0]
      [isPair .hl 0x1003, isPair .de 0x2003, isPair .bc 0, isRam 0x2002 0x33, completed,
        isF false false false false false false]) &&
     (ok [setPair .hl 0x1002, setPair .de 0x2002, setPair .bc 3, ram 0x1002 0x33] [0xED, 0xB8]
      [isPair .hl 0x1001, isPair .de 0x2001, isPair .bc 2, isRam 0x2002 0x33, holding .lddr]) &&
     (ok [setPair .hl 0x1000, setPair .de 0x2000, setPair .bc 1, ram 0x1000 0x11] [0xED, 0xB8]
      [isPair .hl 0x0FFF, isPair .de 0x1FFF, isPair .bc 0, isRam 0x2000 0x11, completed])) = true := by
  decide +kernel

/-- R455, R457: the first iteration of TB-10 and TB-13, the match of TB-12, the last byte of TB-11. -/
theorem test_cpir_cpdr :
    ((ok [setR .a 0x22, setPair .hl 0x1000, setPair .bc 4, ram 0x1000 0x11] [0xED, 0xB1]
      [isPair .hl 0x1001, isPair .bc 3, isF false false false true true false, holding .cpir]) &&
     (ok [setR .a 0x22, setPair .hl 0x1001, setPair .bc 1, ram 0x1001 0x22] [0xED, 0xB1]
      [isPair .hl 0x1002, isPair .bc 0, isF false true false false true false, completed]) &&
     (ok [setR .a 0x11, setPair .hl 0x1003, setPair .bc 4, ram 0x1003 0x44] [0xED, 0xB9]
      [isPair .hl 0x1002, isPair .bc 3, isF true false true true true false, holding .cpdr]) &&
     (ok [setR .a 0x99, setPair .hl 0x1001, setPair .bc 1, ram 0x1001 0x22] [0xED, 0xB9]
      [isPair .hl 0x1000, isPair .bc 0, isF false false false false true false, completed])) = true := by
  decide +kernel

/-- R767, R769, R771, R773: first and last iterations of TI-12, TI-13, TI-16, TI-17. -/
theorem test_block_io_repeats :
    ((ok [setPair .bc 0x0240, setPair .hl 0x6000, announce [0x11, 0x22]] [0xED, 0xB2]
      [isPair .bc 0x0140, isPair .hl 0x6001, isRam 0x6000 0x11, isBus [.ioRead 0x0240 0x11], holding .inir]) &&
     (ok [setPair .bc 0x0140, setPair .hl 0x6001, announce [0x22]] [0xED, 0xB2]
      [isPair .bc 0x0040, isPair .hl 0x6002, isRam 0x6001 0x22, isBus [.ioRead 0x0140 0x22], completed]) &&
     (ok [setPair .bc 0x0240, setPair .hl 0x6001, announce [0x11]] [0xED, 0xBA]
      [isPair .bc 0x0140, isPair .hl 0x6000, isRam 0x6001 0x11, holding .indr]) &&
     (ok [setPair .bc 0x0140, setPair .hl 0x6000, announce [0x22]] [0xED, 0xBA]
      [isPair .bc 0x0040, isPair .hl 0x5FFF, isRam 0x6000 0x22, completed]) &&
     (ok [setPair .bc 0x0340, setPair .hl 0x6000, ram 0x6000 0xA1] [0xED, 0xB3]
      [isPair .bc 0x0240, isPair .hl 0x6001, isBus [.ioWrite 0x0340 0xA1], holding .otir]) &&
     (ok [setPair .bc 0x0140, setPair .hl 0x6002, ram 0x6002 0xA3] [0xED, 0xB3]
      [isPair .bc 0x0040, isPair .hl 0x6003, isBus [.ioWrite 0x0140 0xA3], completed]) &&
     (ok [setPair .bc 0x0240, setPair .hl 0x6001, ram 0x6001 0xA2] [0xED, 0xBB]
      [isPair .bc 0x0140, isPair .hl 0x6000, isBus [.ioWrite 0x0240 0xA2], holding .otdr]) &&
     (ok [setPair .bc 0x0140, setPair .hl 0x6000, ram 0x6000 0xA1] [0xED, 0xBB]
      [isPair .bc 0x0040, isPair .hl 0x5FFF, isBus [.ioWrite 0x0140 0xA1], completed])) = true := by
  decide +kernel

/-- R775, R777: first and last iterations of TI-21 and TI-22. -/
theorem test_otimr_otdmr :
    ((ok [setPair .bc 0x0230, setPair .hl 0x6000, ram 0x6000 0x11] [0xED, 0x93]
      [isPair .bc 0x0131, isPair .hl 0x6001, isBus [.ioWrite 0x0030 0x11], holding .otimr]) &&
     (ok [setPair .bc 0x0131, setPair .hl 0x6001, ram 0x6001 0x92] [0xED, 0x93]
      [isPair .bc 0x0032, isPair .hl 0x6002, isF false true false true true false,
        isBus [.ioWrite 0x0031 0x92], completed]) &&
     (ok [setPair .bc 0x0231, setPair .hl 0x6001, ram 0x6001 0x92] [0xED, 0x9B]
      [isPair .bc 0x0130, isPair .hl 0x6000, isBus [.ioWrite 0x0031 0x92], holding .otdmr]) &&
     (ok [setPair .bc 0x0130, setPair .hl 0x6000, ram 0x6000 0x11] [0xED, 0x9B]
      [isPair .bc 0x002F, isPair .hl 0x5FFF, isF false true false true false false,
        isBus [.ioWrite 0x0030 0x11], completed])) = true := by decide +kernel

/-! ## The MPU instructions -/

def rising (v : Byte) : List Byte := (List.range 16).map fun k => v + BitVec.ofNat 8 k
def isMmu (k : Nat) (w : Word) (s : State) : Bool := s.mmu.toList.getD k 0 == w
def isBuf (k : Nat) (w : Word) (s : State) : Bool := s.mmuBuf.toList.getD k 0 == w
def setMmu (f : Nat → Word) (s : State) : State := { s with mmu := Vector.ofFn fun k => f k.val }
def setBuf (f : Nat → Word) (s : State) : State := { s with mmuBuf := Vector.ofFn fun k => f k.val }
def isPhys (la : Word) (pa : BitVec 28) (s : State) : Bool := translate s la == pa

/-- R860, R861 (TM-01, TM-02, TM-03). -/
theorem test_ldm_from_memory :
    ((ok [setPair .hl 0x4000, ramFrom 0x4000 (rising 0x10)] [0xED, 0x80]
      [isPair .hl 0x4010, isBuf 0 0x0010, isBuf 15 0x001F, isMmu 1 0x0001, isPhys 0x1234 0x0001234, isPc 0x0102]) &&
     (ok [setPair .hl 0xFFF8, ramFrom 0xFFF8 (rising 0x40)] [0xED, 0x80]
      [isPair .hl 0x0008, isBuf 0 0x0040, isBuf 7 0x0047, isBuf 8 0x0048, isBuf 15 0x004F]) &&
     (ok [setPair .hl 0x5000, ramFrom 0x5000 (List.replicate 16 0x80)] [0xED, 0x90]
      [isPair .hl 0x5010, isBuf 0 0x8000, isBuf 15 0x800F, isMmu 15 0x000F])) = true := by decide +kernel

/-- R862, R863 (TM-04, TM-05, TM-06). -/
theorem test_ldms_swap :
    ((ok [setPair .hl 0x4000, ramFrom 0x4000 (rising 0x20)] [0xED, 0x88]
      [isPair .hl 0x4010, isMmu 0 0x0020, isMmu 1 0x0021, isMmu 15 0x002F, isBuf 0 0, isBuf 15 0x000F,
        isPhys 0x1234 0x0021234, isPhys 0x0102 0x0020102]) &&
     (ok [setBuf fun k => if k = 1 then 0x0155 else BitVec.ofNat 16 k] [0xED, 0x7F]
      [isMmu 1 0x0155, isBuf 1 0x0001, isPhys 0x1ABC 0x0155ABC, isPc 0x0102]) &&
     (ok [setMmu fun k => if k = 1 then 0x0155 else BitVec.ofNat 16 k] [0xED, 0x7F]
      [isMmu 1 0x0001, isBuf 1 0x0155, isPhys 0x1ABC 0x0001ABC])) = true := by decide +kernel

/-- R864, R865 (TM-07, TM-08, TM-09). -/
theorem test_ldm_to_memory :
    ((ok [setPair .hl 0x6000, setMmu fun k => if k = 3 then 0x0077 else BitVec.ofNat 16 k,
        setBuf fun k => BitVec.ofNat 16 (0x30 + k)] [0xED, 0x82]
      [isPair .hl 0x6010, isRam 0x6000 0x30, isRam 0x6001 0x31, isRam 0x6003 0x33, isRam 0x600F 0x3F,
        isRam 0x6010 0x00]) &&
     (ok [setPair .hl 0x6000, setBuf fun k => BitVec.ofNat 16 (0xA000 + 0x101 * k)] [0xED, 0x92]
      [isPair .hl 0x6010, isRam 0x6000 0xA0, isRam 0x6001 0xA1, isRam 0x600F 0xAF])) = true := by decide +kernel

/-- R866 (TM-10, TM-11; TZ-04). The address latches are chosen, so that every byte's place shows. -/
theorem test_ldm_sys :
    ((ok [setPair .hl 0x8100, withPins fun p => { p with extStatBus := 0xA5 },
        fun s => { s with
          sys := { s.sys with trapLog := 0x1234, trapPhys := 0x5678, faultLog := 0x9ABC, faultPhys := 0xDEF1 } }]
      [0xED, 0x9A]
      [isPair .hl 0x8110, isRam 0x8100 0x10, isRam 0x8101 0x00, isRam 0x8102 0x34, isRam 0x8103 0x12,
        isRam 0x8104 0x78, isRam 0x8105 0x56, isRam 0x8106 0xBC, isRam 0x8107 0x9A, isRam 0x8108 0xF1,
        isRam 0x8109 0xDE, isRam 0x810A 0x00, isRam 0x810B 0x00, isRam 0x810C 0x00, isRam 0x810D 0x00,
        isRam 0x810E 0x01, isRam 0x810F 0xA5, isBus [.extStatRd], fun s => s.sys.porSeen == false,
        fun s => s.sys.faultLog == 0x9ABC]) &&
     (ok [setPair .hl 0x8110, withPins fun p => { p with extStatBus := 0xA5 },
        fun s => { s with sys := { s.sys with porSeen := false } }] [0xED, 0x9A]
      [isPair .hl 0x8120, isRam 0x8110 0x00, isRam 0x8111 0x00, isRam 0x811F 0xA5])) = true := by decide +kernel

/-- R867, R868, R947 (TM-13, TM-14, TM-15). -/
theorem test_watchdog :
    ((ok [] [0xED, 0x6E] [fun s => s.wdt == ⟨false, 0, 0, 256⟩, isPc 0x0102]) &&
     (ok [fun s => { s with wdt := ⟨false, 9, 0, 100⟩ }] [0xED, 0x6E] [fun s => s.wdt == ⟨false, 9, 0, 100⟩]) &&
     (ok [withPins fun p => { p with wdtLim := 3 }, fun s => { s with wdt := ⟨false, 9, 0, 252⟩ }] [0xED, 0x7E]
      [fun s => s.wdt == ⟨true, 0, 3, 252⟩, fun s => wdtPeriod s.wdt.limit == 4194304]) &&
     (ok [withPins fun p => { p with wdtLim := 3 }] [0xED, 0x7E]
      [fun s => s.wdt == ⟨false, 0, 0, 0⟩, isPc 0x0102])) = true := by decide +kernel

/-- R870 (TM-16 to TM-19), and the other value of the parameter. -/
theorem test_mpu_opcodes_on_cpu :
    ([0x80, 0x7F, 0x9A, 0x6E].all (fun b =>
      ok [asCpu] [0xED, b] [isPair .sp 0x7FFE, isRam 0x7FFE 0x00, isRam 0x7FFF 0x01, isPc 0x0000]) &&
     (ok [asCpu, fun s => { s with cfg := { s.cfg with mpuOnCpu := .absentEffect } }] [0xED, 0x7F]
      [isPair .sp 0x8000, isPc 0x0102])) = true := by decide +kernel

/-! ## Traps (R903 to R909) -/

def isTrap (status : Byte) (logical physical : Word) (s : State) : Bool :=
  trapStatus s == status && s.sys.trapLog == logical && s.sys.trapPhys == physical

def protect (lo hi : BitVec 28) (s : State) : State := { s with pins := { s.pins with wrInh := [⟨lo, hi⟩] } }
def inhibit (lo hi : BitVec 28) (s : State) : State := { s with pins := { s.pins with execInh := [⟨lo, hi⟩] } }

/-- R903, R904 (TT-01, TT-13, TT-17). -/
theorem test_illegal_traps :
    ((ok [setPc 0x3000, setR .a 0x55, setIff1 true, setIff2 true] [0xED, 0x30]
      [isPair .sp 0x7FFE, isRam 0x7FFE 0x00, isRam 0x7FFF 0x30, isPc 0x0000, isR .a 0x55, isIff true true,
        isTrap 0x01 0x3000 0x0003, isBus [.illegalAck2]]) &&
     (ok [setPc 0x3000, setPair .ix 0x4000, ram 0x4005 0x81] [0xDD, 0xCB, 0x05, 0x00]
      [isPair .sp 0x7FFE, isRam 0x7FFE 0x02, isRam 0x7FFF 0x30, isPc 0x0000, isRam 0x4005 0x81,
        isTrap 0x02 0x3002 0x0003, isBus [.illegalAck3]]) &&
     (ok [setPc 0x3000, setMmu fun k => if k = 3 then 0x0ABC else BitVec.ofNat 16 k] [0xED, 0x30]
      [isRam 0x7FFF 0x30, isTrap 0x01 0x3000 0x0ABC])) = true := by decide +kernel

/-- R905, R906, R909 (TT-18, TT-19, TT-20). -/
theorem test_execute_inhibit :
    ((ok [setPc 0x5000, setR .a 0x01, inhibit 0x5000 0x5FFF] [0x3C]
      [isR .a 0x01, isPair .sp 0x7FFE, isRam 0x7FFE 0x01, isRam 0x7FFF 0x50, isPc 0x0000,
        isTrap 0x04 0x5000 0x0005]) &&
     (ok [setPc 0x4FFE, inhibit 0x5000 0x5FFF] [0x21, 0x34, 0x12] [isPair .hl 0x1234, isPc 0x5001]) &&
     (ok [setPc 0x5001, inhibit 0x5000 0x5FFF] [0x00] [isRam 0x7FFE 0x02, isRam 0x7FFF 0x50, isPc 0x0000]) &&
     (ok [setPc 0x0040, inhibit 0x0000 0x0FFF] [0x00]
      [isTrap 0x04 0x0040 0x0000, fun s => s.sys.fatalSeen && s.fatal])) = true := by decide +kernel

/-- R907, R924 (TT-21, TT-22, TT-23, TT-25, TT-26). -/
theorem test_write_protect :
    ((ok [setPair .hl 0x6010, setR .a 0x77, ram 0x6010 0x11, protect 0x6000 0x6FFF] [0x77, 0x3C]
      [isRam 0x6010 0x11, isPc 0x0101, fun s => s.wpPending, isTrap 0x08 0x6010 0x0006]) &&
     (ok [setPc 0x0101, setR .a 0x77, fun s => { s with wpPending := true }] [0x3C]
      [isR .a 0x77, isPair .sp 0x7FFE, isRam 0x7FFE 0x02, isRam 0x7FFF 0x01, isPc 0x0000,
        fun s => !s.wpPending]) &&
     (ok [setPair .hl 0x6010, ram 0x6010 0x7F, protect 0x6000 0x6FFF] [0x34]
      [isRam 0x6010 0x7F, isF true false true true false false, fun s => s.wpPending]) &&
     (ok [setPair .hl 0x1234, protect 0x6000 0x6FFF] [0x22, 0xFF, 0x5F]
      [isRam 0x5FFF 0x34, isRam 0x6000 0x00, fun s => s.wpPending, fun s => s.sys.trapLog == 0x6000]) &&
     (ok [setPair .hl 0x4000, setPair .de 0x6100, setPair .bc 3, ram 0x4000 0xA0, protect 0x6000 0x6FFF]
      [0xED, 0xB0]
      [isRam 0x6100 0x00, isPair .hl 0x4001, isPair .de 0x6101, isPair .bc 2, fun s => s.wpPending]) &&
     (ok [fun s => { s with wpPending := true, repeating := some .ldir }, setPair .bc 2] [0xED, 0xB0]
      [isRam 0x7FFE 0x01, isRam 0x7FFF 0x01, isPc 0x0000, isPair .bc 2, fun s => s.repeating == none]) &&
     (ok [setR .a 0x60, protect 0x6000 0x6FFF] [0xD3, 0x10]
      [isBus [.ioWrite 0x6010 0x60], fun s => !s.wpPending])) = true := by decide +kernel

/-- R909, R1002 (TT-24): the inhibited push, and the reset in the step that follows. -/
theorem test_fatal :
    ((ok [setPair .sp 0x6100, setPair .bc 0x1234, protect 0x6000 0x6FFF] [0xC5]
      [isRam 0x60FF 0x00, isRam 0x60FE 0x00, fun s => s.sys.wpTrap && s.sys.fatalSeen && s.fatal]) &&
     (ok [setPair .sp 0x6100, setIff1 true, setMmu fun _ => 0x0ABC, protect 0xABC000 0xABCFFF,
        fun s => { s with fatal := true }] [0x00]
      [isPc 0x0000, isPair .sp 0x0000, isIff false false, isMmu 2 0x0002, fun s => !s.fatal,
        isBus [.resetOut]])) = true := by decide +kernel

/-! ## Interrupts, Halt, Sleep, DMA -/

def request (v : Byte) (s : State) : State := asCpu { s with pins := { s.pins with intReq := true, ivecDataIn := v } }
def enabled (s : State) : State := { s with iff1 := true, iff2 := true }

/-- R912, R918 (TN-01, TN-02, TN-19). -/
theorem test_nmi :
    ((ok [setPc 0x1234, enabled, fun s => { s with nmiLatch := true }] []
      [isPc 0x0066, isPair .sp 0x7FFE, isRam 0x7FFE 0x34, isRam 0x7FFF 0x12, isIff false true, isBus [.nmiAck]]) &&
     (ok [setPc 0x1234, request 0xFF, withPins fun p => { p with nmiReq := true, nmiAddr := 0x2000 }] []
      [isPc 0x2000, isRam 0x7FFE 0x34, isIff false false])) = true := by decide +kernel

/-- R915, R916, R917 (TN-03 to TN-11). -/
theorem test_int_modes :
    ((ok [setPc 0x1234, enabled, request 0xFF] []
      [isPc 0x0038, isPair .sp 0x7FFE, isRam 0x7FFE 0x34, isRam 0x7FFF 0x12, isIff false false]) &&
     (ok [setPc 0x1234, enabled, request 0xD7] [] [isPc 0x0010]) &&
     (ok [setPc 0x1234, enabled, request 0xCD] [] [isPc 0x0008]) &&
     (ok [setPc 0x1234, enabled, request 0x12, setIm .im1] [] [isPc 0x0038, isIff false false]) &&
     (ok [setPc 0x1234, enabled, request 0x20, setIm .im2, setSpecialI 0x40, ram 0x4021 0x30] []
      [isPc 0x3000, isRam 0x7FFE 0x34]) &&
     (ok [setPc 0x1234, enabled, request 0xFF, setIm .im2, setSpecialI 0xFF, ram 0xFFFF 0x78, ram 0x0000 0x56] []
      [isPc 0x5678]) &&
     (ok [setPc 0x1234, request 0xFF] [0x00] [isPc 0x1235, isPair .sp 0x8000])) = true := by decide +kernel

/-- R910, R921, R922, R458 (TN-12, TN-14 to TN-18). -/
theorem test_int_boundaries :
    ((ok [request 0, setIm .im1] [0xFB, 0x3C] [isIff true true, isPc 0x0101]) &&
     (ok [request 0, setIm .im1, enabled, setPc 0x0101] [0x3C]
      [isR .a 0x00, isPc 0x0038, isRam 0x7FFE 0x01, isRam 0x7FFF 0x01]) &&
     (ok [request 0, setIm .im1, enabled, setPc 0x0101, fun s => { s with run := .halted, haltIntEn := true }] []
      [isPc 0x0038, isRam 0x7FFE 0x01, fun s => s.run == .running]) &&
     (ok [request 0, setPc 0x0101, fun s => { s with run := .halted }] []
      [isPc 0x0101, isPair .sp 0x8000, fun s => s.run == .halted]) &&
     (ok [request 0, setPc 0x0102, fun s => { s with run := .sleeping }] []
      [isPc 0x0102, isPair .sp 0x8000, isIff false false, fun s => s.run == .running]) &&
     (ok [request 0, setIm .im1, enabled, setPc 0x0102, fun s => { s with run := .sleeping }] []
      [isPc 0x0038, isRam 0x7FFE 0x02, fun s => s.run == .running]) &&
     (ok [request 0, setIm .im1, enabled, setPair .bc 2, fun s => { s with repeating := some .ldir }] [0xED, 0xB0]
      [isPc 0x0038, isRam 0x7FFE 0x00, isRam 0x7FFF 0x01, isPair .bc 2, fun s => s.repeating == none])) = true := by
  decide +kernel

def pending (offset : BitVec 3) (k : Nat) (s : State) : State :=
  { s with irq := bitAt k, pins := { s.pins with ivecOffset := offset } }

/-- R932, R933, R934 (TV-01 to TV-07), and RETI at the controller. -/
theorem test_controller :
    ((ok [enabled, setIm .im2, setSpecialI 0x40, pending 1 5, ram 0x402B 0x30] []
      [isBus [.intAck 0x2A (some 5)], isPc 0x3000, fun s => s.irq == 0, fun s => s.ius == 0x0020]) &&
     (ok [enabled, setIm .im2, pending 7 15] [] [isBus [.intAck 0xFE (some 15)]]) &&
     (ok [enabled, pending 1 3] [] [isBus [.intAck 0xCF (some 3)], isPc 0x0008]) &&
     (ok [enabled, setIm .im1, pending 7 3] [] [isBus [.intAck 0xFF (some 3)], isPc 0x0038]) &&
     (ok [enabled, pending 0 3, fun s => { s with ius := 0x0010 }] [0x00] [isPc 0x0101, fun s => s.irq == 0x0008]) &&
     (ok [fun s => { s with ius := 0x0024 }] [0xED, 0x4D] [fun s => s.ius == 0x0004, isBus [.retiTran]])) = true := by
  decide +kernel

/-- R869 (TM-12): SWAP casts the shadow, the next instruction executes, and then the request is taken. -/
theorem test_shadow :
    ((ok [enabled, setIm .im1] [0xED, 0x7F] [fun s => s.shadow, isPc 0x0102]) &&
     (ok [enabled, setIm .im1, pending 0 3, setPc 0x0102, fun s => { s with shadow := true }] [0x3C]
      [isR .a 0x01, isPc 0x0103, fun s => !s.shadow]) &&
     (ok [enabled, setIm .im1, pending 0 3, setPc 0x0103] [0x3C] [isR .a 0x00, isPc 0x0038, isRam 0x7FFE 0x03])) =
      true := by decide +kernel

/-- R923, R941, R942: a grant, the highest-priority requester, and the release. -/
theorem test_dma :
    ((ok [withPins fun p => { p with dmaReqBus := 0x14 }] [0x3C]
      [isR .a 0x00, isPc 0x0100, fun s => s.dma.ack && s.dma.dus == 0x10]) &&
     (ok [fun s => { s with dma := ⟨true, 0x10, 5, 0, false⟩ }, withPins fun p => { p with drqIdlLim := 2 }] [0x3C]
      [isR .a 0x01, fun s => s.dma == ⟨false, 0, 0, 32, false⟩])) = true := by decide +kernel

/-! ## Resets and the timers -/

def due (i : Machine.Input) (s : State) : State := { s with sched := [(0, .between i)] }
def inside (ks : List WaitKind) (i : Option (Nat × Machine.Input)) (s : State) : State :=
  { s with sched := [(0, .during ks i)] }

/-- R123, R1000 (TZ-01, TZ-02), by the pin of the CPU version. -/
theorem test_user_reset :
    ((ok [setPc 0x4321, setPair .sp 0x7000, setR .a 0x12, setPair .bc 0x3456, setPair .ix 0x1111, setAlt .a 0x99,
        enabled, setIm .im2, setSpecialI 0x40, fun s => { s with run := .halted }, asCpu, due .resetb] []
      [isPc 0x0000, isPair .sp 0x0000, isR .a 0x12, isPair .bc 0x3456, isPair .ix 0x1111, isAlt .a 0x99,
        isIff false false, fun s => s.im == .im0 && s.run == .running && s.i == 0]) &&
     (ok [setBuf fun _ => 0x0034, fun s => { s with wdt := ⟨true, 5, 1, 7⟩, sys := { s.sys with ill2Trap := true } },
        due (.pins { Pins.initial with resetBus := 2 })] []
      [isBuf 2 0x0002, fun s => !s.wdt.enabled && s.sys.ill2Trap && s.sys.bus1Seen && !s.sys.bus0Seen])) = true := by
  decide +kernel

/-- The real-time-interrupt generator stopped. -/
def noRti (s : State) : State :=
  { s with pins := { s.pins with rtiDefault := 0 }, rti := ⟨0, false, 0, 0, 0, 0, 0⟩ }

/-- R946, R948 (TZ-03): the last clock of the period, and the one before. -/
theorem test_watchdog_timeout :
    ((ok [noRti, fun s => { s with wdt := ⟨true, 0, 0, 0⟩ }, due (.clocks 1048576)] []
      [isPc 0x0000, fun s => s.sys.wdtSeen && !s.wdt.enabled]) &&
     (ok [noRti, fun s => { s with wdt := ⟨true, 0, 0, 0⟩ }, due (.clocks 1048575)] []
      [isPc 0x0100, fun s => !s.sys.wdtSeen && s.wdt.count == 1048575])) = true := by decide +kernel

/-- R941, R948: a watch-dog reset ends a grant before its limit, which then is not reached. -/
theorem test_reset_ends_grant :
    ok [noRti, withPins fun p => { p with drqActLim := 1, dmaReqBus := 1 },
      fun s => { s with wdt := ⟨true, 1048570, 0, 0⟩, dma := ⟨true, 1, 0, 0, false⟩ }, due (.clocks 100)] []
      [isPc 0x0000, fun s => s.sys.wdtSeen && s.sys.dreqStat == 0 && !s.dma.ack,
        isBus [.resetOut, .wdtTimeout]] = true := by decide +kernel

/-- R952, R862: an upset inside SWAP latches its address as the contexts before the exchange translate it. -/
theorem test_upset_inside_swap :
    ok [setBuf fun _ => 0x0034, inside [] (some (0, .faultDetect 0x1234))] [0xED, 0x7F]
      [isPc 0x0000, fun s => s.sys.faultSeen && s.sys.faultLog == 0x1234 && s.sys.faultPhys == 0x0001] = true := by
  decide +kernel

/-- R1004 (TZ-04): power-on sets Reset Status bit 4 in the MPU, and resets it; in the CPU version `clearb` affects
only what `resetb` does not. -/
theorem test_power_on :
    ((ok [fun s => { s with sys := { s.sys with porSeen := false, wdtSeen := true } }, due .clearb] []
      [isPc 0x0000, fun s => resetStatus s == 0x10]) &&
     (ok [enabled, setSpecialI 0x40, asCpu, due .clearb] []
      [isPc 0x0100, isPair .sp 0x8000, isIff true true, fun s => s.i == 0x40])) = true := by decide +kernel

/-- R943, R944, R951: a memory wait held to its limit in LD A,(HL), whose read then takes what the bus holds; an
I/O wait, which an instruction without an I/O transaction does not sample. -/
theorem test_wait_time_out :
    ((ok [setPair .hl 0x4000, ram 0x4000 0x11, withPins (fun p => { p with memWaitLim := 8 }),
        inside [.mem false (some (0x4000, 0x99))] none] [0x7E]
      [isR .a 0x99, isRam 0x4000 0x11, fun s => s.sys.waitStat == 1, isBus [.waitTimeout]]) &&
     (ok [withPins fun p => { p with ioWaitLim := 8 }, inside [.io] none] [0x3C]
      [isR .a 0x01, fun s => s.sys.waitStat == 0]) &&
     (ok [withPins (fun p => { p with ioWaitLim := 8 }), inside [.io] none] [0xD3, 0x05]
      [fun s => s.sys.waitStat == 1])) = true := by decide +kernel

/-- R1016: `mem_wait_lim` becomes 8 inside LD A,(HL), after its fetch: a wait in the read of the operand times out,
one in the fetch has no limit. -/
theorem test_wait_limit_inside_instruction :
    let p : Pins := { base.pins with memWaitLim := 8 }
    ok [setPair .hl 0x4000, inside [.mem true (some (0x4000, 0x99))] (some (0, .pins p))] [0x7E]
        [isR .a 0x99, fun s => s.sys.waitStat == 1] = true ∧
      (match step (inside [.mem false none] (some (0, .pins p)) base) with
        | .fault .waitForever => true
        | _ => false) = true := by
  decide +kernel

/-- U23: without a limit a held wait request stops the machine, if its transaction is made. -/
theorem test_wait_for_ever :
    (match step (inside [.mem false none] none (asCpu base)) with | .fault .waitForever => true | _ => false) = true ∧
      (match step (inside [.iack] none (asCpu base)) with | .next t => t.pc == 0x0101 | _ => false) = true := by
  decide +kernel

/-- R1000, R214: `resetb` inside LD BC,0x1234 leaves what the instruction does not update; inside PUSH BC after one
write the higher byte alone is stored (R204); inside INI after its read nothing is stored. -/
theorem test_reset_inside_instruction :
    ((ok [setR .a 0x5A, setPair .de 0x2222, asCpu, inside [] (some (0, .resetb))] [0x01, 0x34, 0x12]
      [isPc 0x0000, isPair .sp 0x0000, isR .a 0x5A, isPair .de 0x2222, isRam 0x0101 0x34]) &&
     (ok [setPair .bc 0x1234, setPair .sp 0x8000, asCpu, inside [] (some (1, .resetb))] [0xC5]
      [isPc 0x0000, isPair .bc 0x1234, isRam 0x7FFF 0x12, isRam 0x7FFE 0x00]) &&
     (ok [setPair .bc 0x1234, setPair .hl 0x4000, announce [0x77], asCpu, inside [] (some (1, .resetb))] [0xED, 0xA2]
      [isPc 0x0000, isRam 0x4000 0x00, isBus [.ioRead 0x1234 0x77]])) = true := by decide +kernel

/-- R908, R1003: a reset after five writes of LDM (HL),MMU keeps the trap of the first, which was inhibited, with its
address; after three of LDM (HL),SYS nothing is cleared yet; after the acknowledge of an illegal opcode its trap stays. -/
theorem test_reset_keeps_trap :
    let p : Pins := { base.pins with resetBus := 2 }
    ((ok [setPair .hl 0x4000, withPins fun q => { q with wrInh := [⟨0x4000, 0x4000⟩] }, inside [] (some (5, .pins p))]
        [0xED, 0x82]
      [isPc 0x0000, fun s => s.sys.wpTrap && s.sys.trapLog == 0x4000 && s.sys.trapPhys == 0x0004 && s.sys.bus1Seen]) &&
     (ok [setPair .hl 0x4000, fun s => { s with sys := { s.sys with wdtSeen := true, execTrap := true } },
        inside [] (some (3, .pins p))] [0xED, 0x9A]
      [isPc 0x0000, fun s => s.sys.wdtSeen && s.sys.execTrap && s.sys.bus1Seen]) &&
     (ok [inside [] (some (1, .pins p))] [0xED, 0x77]
      [isPc 0x0000, fun s => s.sys.ill2Trap && s.sys.trapLog == 0x0100])) = true := by decide +kernel

/-- R1016: `wr_inh` becomes active for page 4 between the two writes of LD (0x4000),HL. -/
theorem test_wr_inh_inside_instruction :
    ok [setPair .hl 0x1234, inside [] (some (1, .pins { base.pins with wrInh := [⟨0x4000, 0x4FFF⟩] }))]
      [0x22, 0x00, 0x40]
      [isPc 0x0103, isRam 0x4000 0x34, isRam 0x4001 0x00, fun s => s.wpPending && s.sys.trapLog == 0x4001,
        fun s => s.pins.wrInh == [⟨0x4000, 0x4FFF⟩]] = true := by decide +kernel

/-- R1016: `clearb` inside PUSH BC of the CPU version, after its writes: the pushed bytes are the old ones, and what
`resetb` initialises goes on. -/
theorem test_clearb_inside_instruction :
    ok [setPair .bc 0x1234, setPair .sp 0x8000, setSpecialI 0x40, asCpu, inside [] (some (2, .clearb))] [0xC5]
      [isPc 0x0101, isPair .sp 0x7FFE, isRam 0x7FFF 0x12, isRam 0x7FFE 0x34, fun s => s.i == 0x40] = true := by
  decide +kernel

/-- R957, R958: P = 10000 and D = 4 give Q = 2500; the last period of a frame tracks the edge by one clock, and no
period is shorter than 1024. -/
theorem test_rti_periods :
    let p (d : BitVec 7) : Pins := { Pins.initial with rtiDivisor := d }
    let r (since : Nat) : Rti := ⟨0, true, 2, 10000, since, 0, 3⟩
    rtiSlot (p 4) (r 0) 1 = 2500 ∧ rtiSlot (p 4) (r 7500) 4 = 2500 ∧ rtiSlot (p 4) (r 7490) 4 = 2501 ∧
      rtiSlot (p 4) (r 7510) 4 = 2499 ∧ rtiSlot (p 3) (r 0) 1 = 3334 ∧ rtiSlot (p 3) (r 0) 2 = 3333 ∧
      rtiSlot (p 2) ⟨0, true, 2, 1500, 1024, 0, 1⟩ 2 = 1024 := by decide +kernel

/-- R957, R958: after a loss two edges of a slower reference synchronise again; with `rti_divisor` 1 a lost
reference leaves no pulse. -/
theorem test_rti_loss :
    let slow : State :=
      rtiEdge { rtiClocks 5000 (rtiEdge (rtiClocks 400 { base with rti := ⟨0, true, 2, 100, 0, 0, 0⟩ })) with
        pins := base.pins }
    let passing : State := withPins (fun p => { p with rtiDivisor := 1 }) { base with rti := ⟨0, true, 2, 100, 0, 0, 0⟩ }
    slow.rti.synced = true ∧ slow.rti.period = 5000 ∧ (rtiClocks 9999 passing).rti.synced = false ∧
      (rtiClocks 9999 passing).busLog = [] ∧ (rtiEdge (rtiClocks 9999 passing)).busLog = [.rtiPulse] := by
  decide +kernel

/-- R958: the third missed edge loses the reference, and the next reload starts no period of a frame. -/
theorem test_rti_missed :
    let p : Pins := { Pins.initial with rtiDivisor := 4 }
    let r (since : Nat) : Rti := ⟨0, true, 2, 100, since, 0, 1⟩
    rtiWatch (r 300) = { r 300 with missed := 2 } ∧ (rtiWatch (r 301)).synced = false ∧
      (rtiReload p 0 (rtiWatch (r 300))).slot = 2 ∧ (rtiReload p 0 (rtiWatch (r 301))).slot = 0 := by
  decide +kernel

/-! ## Witnesses: states and operands that meet the hypotheses of the statements -/

/-- Bytes at PC of the start state, as the MPU; nothing comes before the fetch. -/
def quiet (bytes : List Byte) : State := placeBytes base.pc bytes base

/-- The bytes at PC, decoded. -/
def atPc (s : State) : Decoded :=
  decode (readMem s s.pc) (readMem s (s.pc + 1)) (readMem s (s.pc + 2)) (readMem s (s.pc + 3))

theorem witness_DecodeOfEncode :
    Instr.wellFormed (.ldDdFromMn .sp 0xFFFF) = true ∧ Instr.wellFormed (.addIxXx .ix) = true ∧
      Instr.wellFormed (.jrCcE .c 0x80) = true ∧ Instr.wellFormed (.pushTt .af) = true := by decide

theorem witness_EncodeOfDecode : decode 0xED 0x7B 0xFF 0xFF = .instr (.ldDdFromMn .sp 0xFFFF) := by decide +kernel

/-- Every clause: an illegal opcode of each kind, and four bytes that an encoding begins. -/
theorem witness_IllegalOpcodesAndTheirTrap :
    decode 0xED 0x30 0 0 = .illegal2 ∧ decode 0xDD 0xCB 0 0x36 = .illegal3 ∧ decode 0xFD 0xCB 0 0xFF = .illegal3 ∧
      decode 0xDD 0xCB 0 0x3E = .instr (.srlX .ix 0) := by decide +kernel

theorem witness_StepRunsDecodedInstruction :
    Safety.Quiet (quiet [0x3E, 0x5A]) ∧ Instr.wellFormed (.ldRN .a 0x5A) = true ∧
      atPc (quiet [0x3E, 0x5A]) = .instr (.ldRN .a 0x5A) ∧ (quiet [0x3E, 0x5A]).pins.enPrftch = false := by
  delta Safety.Quiet Safety.AtFetch; decide +kernel

/-- The same with `en_prftch` high, and an instruction that prefetches the prefix byte after it. -/
theorem witness_StepRunsDecodedInstruction_prefetch :
    let s := withPins (fun p => { p with enPrftch := true }) (quiet [0x77, 0xED])
    Safety.Quiet s ∧ atPc s = .instr (.ldMR .a) ∧ prefetchedAfter (.ldMR .a) s = some (0x0101, 0xED) := by
  delta Safety.Quiet Safety.AtFetch; decide +kernel

/-- Inputs on both sides of the table's edge in each half, and an unlisted one under `z80`. -/
theorem witness_DaaAdjusts :
    daaListed ⟨false, false, false, true, false, false, false, false⟩ 0x43 ∧
      ¬ daaListed ⟨false, false, false, true, false, false, false, false⟩ 0x44 ∧
      daaListed ⟨false, false, false, true, false, false, true, true⟩ 0x66 ∧
      ¬ daaListed ⟨false, false, false, true, false, false, true, true⟩ 0x65 ∧
      { base.cfg with daaOutside := .z80, u53 := .keep }.daaOutside = .z80 := by
  simp [daaListed]

theorem witness_AddWordComputes : Pair.inDd .sp = true ∧ Pair.inXx .ix = true ∧ Pair.inYy .iy = true := by decide

theorem witness_AdcSbcWordCompute : Pair.inDd .hl = true ∧ Pair.inDd .sp = true := by decide

theorem witness_IncDecWordCompute : Pair.inDd .bc = true ∧ Pair.inDd .sp = true := by decide

theorem witness_MultiplyHalvesComputes : Pair.inDd .de = true ∧ Pair.inDd .sp = true := by decide

theorem witness_WordLoadsIntoRegisters : Pair.inDd .hl = true ∧ Pair.inDd .sp = true := by decide

theorem witness_WordStoresToMemory : Pair.inDd .de = true ∧ Pair.inDd .sp = true := by decide

theorem witness_PushStoresWord : Pair.inTt .af = true ∧ Pair.inTt .hl = true := by decide

theorem witness_PopLoadsWord : Pair.inTt .af = true ∧ Pair.inTt .bc = true := by decide

/-- A transfer of five bytes to the very next address, at the end of the address space. -/
def copying : State :=
  asCpu (setPair .bc 5 (setPair .hl 0xFFF6 (setPair .de 0xFFFB (quiet [0xED, 0xB0]))))

theorem witness_LdirCopiesBlock :
    Safety.Quiet copying ∧ copying.late = [] ∧ copying.cfg.version = .cpu ∧
      readMem copying copying.pc = 0xED ∧ readMem copying (copying.pc + 1) = 0xB0 ∧ 0 < 5 ∧ (getPair .bc copying).toNat = 5 ∧
      (getPair .hl copying).toNat + 5 ≤ 65536 ∧ (getPair .de copying).toNat + 5 ≤ 65536 ∧
      (getPair .hl copying).toNat + 5 ≤ (getPair .de copying).toNat := by
  delta Safety.Quiet Safety.AtFetch; decide +kernel

/-- Each of the eight conditions holds in one state and fails in another. -/
theorem witness_conditions :
    (holds .nz (setF false false false false false false base).reg.f ∧ ¬ holds .nz (setF false true false false false false base).reg.f) ∧
      (holds .z (setF false true false false false false base).reg.f ∧ ¬ holds .z base.reg.f) ∧
      (holds .nc base.reg.f ∧ ¬ holds .nc (setF false false false false false true base).reg.f) ∧
      (holds .c (setF false false false false false true base).reg.f ∧ ¬ holds .c base.reg.f) ∧
      (holds .po base.reg.f ∧ ¬ holds .po (setF false false false true false false base).reg.f) ∧
      (holds .pe (setF false false false true false false base).reg.f ∧ ¬ holds .pe base.reg.f) ∧
      (holds .p base.reg.f ∧ ¬ holds .p (setF true false false false false false base).reg.f) ∧
      (holds .m (setF true false false false false false base).reg.f ∧ ¬ holds .m base.reg.f) := by
  delta holds; dsimp only; decide +kernel

theorem witness_JumpsSetPc :
    Cond.inJr .c = true ∧ holds .c (setF false false false false false true base).reg.f ∧ ¬ holds .c base.reg.f := by
  delta holds; dsimp only; decide +kernel

theorem witness_CallsPushAndGo :
    holds .m (setF true false false false false false base).reg.f ∧ ¬ holds .m base.reg.f := by
  delta holds; dsimp only; decide +kernel

/-- Every clause of RETI: the CPU version, no interrupt under service, and two under service in the MPU. -/
theorem witness_ReturnsPopPc :
    let s : State := { base with ius := 0x8001 }
    (asCpu base).cfg.version = .cpu ∧ base.ius = 0 ∧ s.cfg.version = .mpu ∧ s.ius.getLsbD 15 = true ∧
      (∀ j, j < 16 → outranks s j 15 → s.ius.getLsbD j = false) ∧
      holds .nz base.reg.f ∧ ¬ holds .z base.reg.f := by
  refine ⟨rfl, rfl, rfl, by decide, fun j hj h => ?_, rfl, by delta holds; dsimp only; decide +kernel⟩
  have : 15 < j := h
  omega

theorem witness_AddressTranslation :
    base.cfg.version = .mpu ∧ (0xFFFF : Word).toNat / 4096 = (15 : Fin 16).val ∧
      (0x0FFF : Word).toNat / 4096 = (0 : Fin 16).val ∧ (asCpu base).cfg.version = .cpu := by decide +kernel

theorem witness_MmuLoadsAndSwap : (setPair .hl 0xFFF8 base).cfg.version = .mpu := by decide +kernel

theorem witness_MmuBufferStores : (protect 0x6008 0x6008 (setPair .hl 0x6000 base)).cfg.version = .mpu := by
  decide +kernel

/-- With and without a write of its own inhibited. -/
theorem witness_StatusBlockReadAndCleared :
    base.cfg.version = .mpu ∧
      ((tableAt (setPair .hl 0x6000 base) (blockByte base)).filter fun w =>
        writeInhibited (setPair .hl 0x6000 base) w.1).getLast? = none ∧
      (((tableAt (protect 0x6008 0x6009 (setPair .hl 0x6000 base)) (blockByte base)).filter fun w =>
        writeInhibited (protect 0x6008 0x6009 (setPair .hl 0x6000 base)) w.1).getLast?.map fun w => w.1) =
        some 0x6009 := by decide +kernel

/-- Every clause: a running and a stopped Arm Timer, and each enabling event. -/
theorem witness_WatchdogArmAndReset :
    let armed : State := { base with wdt := ⟨false, 0, 0, 1⟩ }
    let byArm : State := { base with cfg := { base.cfg with wdtEnable := .firstWdarm } }
    base.cfg.version = .mpu ∧ base.wdt.arm = 0 ∧ base.cfg.wdtEnable = .firstWdres ∧ armed.cfg.version = .mpu ∧
      armed.wdt.arm ≠ 0 ∧ byArm.cfg.version = .mpu ∧ byArm.wdt.arm = 0 ∧ byArm.cfg.wdtEnable = .firstWdarm ∧
      byArm.wdt.enabled = false := by decide +kernel

/-- Both values of the parameter, with a storing form and another. -/
theorem witness_MpuOpcodesOnCpu :
    let absent : State := { asCpu base with cfg := { (asCpu base).cfg with mpuOnCpu := .absentEffect } }
    (asCpu base).cfg.version = .cpu ∧ (asCpu base).cfg.mpuOnCpu = .illegal ∧ absent.cfg.version = .cpu ∧
      absent.cfg.mpuOnCpu = .absentEffect ∧
      Instr.ldmFromSys ∈ [Instr.ldmFromMmu, .ldmFromMmuh, .ldmFromSys] ∧
      Instr.swap ∈ [Instr.ldmMmu, .ldmMmuh, .ldmsMmu, .swap, .ldmFromMmu, .ldmFromMmuh, .ldmFromSys, .wdarm, .wdres] ∧
      Instr.swap ∉ [Instr.ldmFromMmu, .ldmFromMmuh, .ldmFromSys] := by decide +kernel

/-- Both kinds, in both versions. -/
theorem witness_IllegalOpcodeTraps :
    Safety.Quiet (quiet [0xED, 0x30]) ∧ atPc (quiet [0xED, 0x30]) = .illegal2 ∧
      Safety.Quiet (asCpu (quiet [0xDD, 0xCB, 0x05, 0x36])) ∧
      atPc (asCpu (quiet [0xDD, 0xCB, 0x05, 0x36])) = .illegal3 := by
  delta Safety.Quiet Safety.AtFetch; decide +kernel

/-- The two sides of the end of page 0. -/
theorem witness_ExecuteInhibitTraps :
    let out := setPc 0x1000 (inhibit 0 0xFFFFFFF base)
    let inside := setPc 0x0FFF (inhibit 0 0xFFFFFFF base)
    (Safety.AtFetch out ∧ execInhibited out out.pc = true ∧ 4096 ≤ out.pc.toNat) ∧
      Safety.AtFetch inside ∧ execInhibited inside inside.pc = true ∧ inside.pc.toNat < 4096 := by
  delta Safety.AtFetch; decide +kernel

/-- Between instructions with everything requested and in the shadow, and between two iterations. -/
theorem witness_WriteProtectTrapTaken :
    let busy : State :=
      withPins (fun p => { p with nmiReq := true, dmaReqBus := 1 })
        (enabled (pending 0 3 { base with wpPending := true, shadow := true }))
    let held : State := { base with wpPending := true, repeating := some .ldir }
    (busy.sched = [] ∧ busy.fatal = false ∧ busy.run = .running ∧ busy.wpPending = true ∧ busy.repeating = none) ∧
      held.sched = [] ∧ held.fatal = false ∧ held.run = .running ∧ held.wpPending = true ∧
      held.cfg.wrprotRepeat = .afterIteration := by decide +kernel

theorem witness_FatalErrorResets :
    let s : State := { protect 0x7FFF 0x7FFF base with fatal := true }
    s.sched = [] ∧ s.fatal = true := by decide +kernel

/-- A latched request in Sleep with interrupts disabled, and a present one while running. -/
theorem witness_NmiAcknowledged :
    let s : State := { base with nmiLatch := true, run := .sleeping }
    let t : State := withPins (fun p => { p with nmiReq := true }) (asCpu (enabled base))
    (s.sched = [] ∧ s.fatal = false ∧ s.wpPending = false ∧ s.shadow = false ∧ dmaRequest s = false ∧
      s.dma.ack = false ∧ s.dma.cut = false ∧ s.nmiLatch = true) ∧
      t.sched = [] ∧ t.fatal = false ∧ t.wpPending = false ∧ t.shadow = false ∧ dmaRequest t = false ∧
      t.dma.ack = false ∧ t.dma.cut = false ∧ t.pins.nmiReq = true := by decide +kernel

/-- The CPU version running and halted; the MPU with inputs 15 and 0 pending, where 15 wins. -/
theorem witness_MaskableInterruptAcknowledged :
    let halted : State := { request 0xFF base with run := .halted, haltIntEn := true }
    let both : State := { enabled base with irq := 0x8001 }
    (IntOpen (request 0xFF (enabled base)) ∧ (request 0xFF (enabled base)).cfg.version = .cpu ∧
      (request 0xFF (enabled base)).pins.intReq = true) ∧
      (IntOpen halted ∧ halted.cfg.version = .cpu ∧ halted.pins.intReq = true) ∧
      IntOpen both ∧ both.cfg.version = .mpu ∧ Winner both 15 ∧ intRequest both = true := by
  refine ⟨⟨by delta IntOpen; decide +kernel, by decide +kernel, by decide +kernel⟩,
    ⟨by delta IntOpen; decide +kernel, by decide +kernel, by decide +kernel⟩,
    by delta IntOpen; decide +kernel, by decide +kernel, ⟨by decide, by decide, fun j hj h => ?_⟩,
    by decide +kernel⟩
  rcases h with rfl | h
  · exact ⟨by decide, fun h => absurd rfl h⟩
  · have : 15 < j := h
    omega

/-- No input wins while one of the same priority is under service. -/
theorem witness_MaskableInterruptAcknowledged_blocked :
    let s : State := { enabled base with irq := 0x0008, ius := 0x0008 }
    s.cfg.version = .mpu ∧ intRequest s = false := by decide +kernel

theorem witness_ShadowGuaranteesNextInstruction :
    let s : State := { enabled (pending 0 3 (quiet [0x3C])) with shadow := true }
    s.sched = [] ∧ s.fatal = false ∧ s.run = .running ∧ s.wpPending = false ∧ s.shadow = true ∧
      s.repeating = none ∧ s.prefetched = none ∧ execInhibited s s.pc = false ∧ atPc s = .instr (.incR .a) := by
  decide +kernel

/-- The four ways to stay or to wake: halted without a request, halted with one it ignores, sleeping without one,
and sleeping with one while interrupts are disabled. -/
theorem witness_HaltAndSleepCycles :
    let free (s : State) : Bool :=
      s.sched == [] && !s.fatal && !s.nmiLatch && !s.pins.nmiReq && !dmaRequest s && !s.dma.ack && !s.dma.cut
    let halted : State := { base with run := .halted, haltIntEn := true }
    let deaf : State := { request 0 base with run := .halted }
    let asleep : State := { enabled base with run := .sleeping }
    let waking : State := { request 0 base with run := .sleeping }
    (free halted = true ∧ halted.run = .halted ∧ intRequest halted = false) ∧
      (free deaf = true ∧ deaf.run = .halted ∧ deaf.haltIntEn = false ∧ intRequest deaf = true) ∧
      (free asleep = true ∧ asleep.run = .sleeping ∧ intRequest asleep = false) ∧
      free waking = true ∧ waking.run = .sleeping ∧ waking.iff1 = false ∧ waking.cfg.sleepExit = .level ∧
      intRequest waking = true := by decide +kernel

/-- Two requesters in the MPU, halted, of which 7 is served; and the pin of the CPU version. -/
theorem witness_DmaRequestTakesBus :
    let s : State := { withPins (fun p => { p with dmaReqBus := 0x81 }) base with run := .halted }
    let t : State := withPins (fun p => { p with dmaReq := true }) (asCpu base)
    (s.sched = [] ∧ s.fatal = false ∧ s.wpPending = false ∧ s.shadow = false ∧ dmaRequest s = true ∧
      s.cfg.version = .mpu ∧ s.pins.dmaReqBus.getLsbD 7 = true ∧
      ∀ j, j < 8 → outranks s j 7 → s.pins.dmaReqBus.getLsbD j = false) ∧
      t.sched = [] ∧ t.fatal = false ∧ t.wpPending = false ∧ t.shadow = false ∧ dmaRequest t = true := by
  refine ⟨⟨rfl, rfl, rfl, rfl, by decide +kernel, rfl, by decide, fun j hj h => ?_⟩, by decide +kernel⟩
  have : 7 < j := h
  omega

/-- The last clock of the period, and one clock fewer. -/
theorem witness_WatchdogTimesOut :
    let s (n : Nat) : State := due (.clocks n) { base with wdt := ⟨true, 1048570, 0, 0⟩ }
    ((s 6).cfg.version = .mpu ∧ (s 6).wdt.enabled = true ∧ (s 6).dma.ack = false ∧ (s 6).dma.idle = 0 ∧
      (s 6).sched = [(0, .between (.clocks 6))] ∧ ((s 6).wdt.limit.toNat + 1) * 2 ^ 20 ≤ (s 6).wdt.count + 6) ∧
      (s 5).wdt.count + 5 < ((s 5).wdt.limit.toNat + 1) * 2 ^ 20 := by decide +kernel

/-- Every clause: the pin of the CPU version, a transition of `reset_bus`, the pin inside LD (HL),A, power-on, and an
upset. -/
theorem witness_UserResetValues :
    let s := due .resetb (asCpu base)
    let p : Pins := { base.pins with resetBus := 1 }
    let t := due (.pins p) base
    let u := inside [] (some (1, .resetb)) (asCpu (quiet [0x77]))
    (s.cfg.version = .cpu ∧ s.sched = [(0, .between .resetb)]) ∧
      (t.cfg.version = .mpu ∧ p.resetBus ≠ t.pins.resetBus ∧ t.sched = [(0, .between (.pins p))] ∧
        p.refClock = t.pins.refClock) ∧
      (u.cfg.version = .cpu ∧ u.late = [] ∧ u.sched = [(0, .during [] (some (1, .resetb)))] ∧
        (match machineStep { u with sched := [] } with | .next v => v.pc == 0x0101 | _ => false) = true ∧
        Safety.Quiet { u with sched := [] } ∧ atPc u = .instr (.ldMR .a)) ∧
      (due .clearb (asCpu base)).sched = [(0, .between .clearb)] ∧
      (due (.faultDetect 7) base).sched = [(0, .between (.faultDetect 7))] := by
  delta Safety.Quiet Safety.AtFetch; decide +kernel

/-- A state with the invariant whose step answers a next state: the reset state, and one with an instruction. -/
theorem witness_StepKeepsInvariant :
    Inv State.reset ∧ (match step State.reset with | .next t => t.pc == 0x0001 | _ => false) = true := by
  refine ⟨⟨rfl, ?_, ?_, by decide, fun _ => rfl, by decide, fun _ => by decide, by decide, by decide,
    fun _ => by decide, fun _ => by decide, rfl⟩, by decide +kernel⟩
  · intro i h; cases h
  · intro la b h; cases h

end Sys2Proof.Tests
end

section
/-! PROOFS. What an action of the machine itself never writes, the resets, and the state right after reset (O58, O60). -/

namespace Sys2Proof.Proofs

open Sys2Proof Sys2Proof.Machine Sys2Proof.Claims

-- One theorem at a time, as in the tests: the check's memory limit does not allow a thread for each.
set_option Elab.async false

/-! ## What an action leaves to the platform -/

/-- What no action of the machine itself writes: the parameters, the generator, and the platform's side. -/
def surroundings (s : State) : Config × Rti × Pins × List (BitVec 28 × Byte) × List (Nat × Arrival) :=
  (s.cfg, s.rti, s.pins, s.late, s.sched)

theorem surroundings_enterException (saved target : Word) (s : State) :
    surroundings (enterException saved target s) = surroundings s := by
  simp [surroundings]

theorem surroundings_illegalIffs (s : State) : surroundings (illegalIffs s) = surroundings s := by
  unfold illegalIffs
  split <;> rfl

theorem surroundings_illegalTrap2 (s : State) : surroundings (illegalTrap2 s) = surroundings s := by
  refine (surroundings_enterException _ _ _).trans ((surroundings_illegalIffs _).trans ?_)
  split <;> rfl

theorem surroundings_illegalTrap3 (s : State) : surroundings (illegalTrap3 s) = surroundings s := by
  refine (surroundings_enterException _ _ _).trans ((surroundings_illegalIffs _).trans ?_)
  split <;> rfl

theorem surroundings_executeInhibitTrap (s : State) : surroundings (executeInhibitTrap s) = surroundings s := by
  unfold executeInhibitTrap
  dsimp only
  split
  · rfl
  · exact surroundings_enterException _ _ _

theorem surroundings_retiPulse (s : State) : surroundings (retiPulse s) = surroundings s := by
  unfold retiPulse
  split
  · rfl
  · split <;> rfl

theorem surroundings_finishIteration (again : Bool) (i : Instr) (s : State) :
    surroundings (finishIteration again i s) = surroundings s := by
  cases again <;> rfl

/-! ### Instructions -/

theorem surroundings_execDaa (s t : State) (e : execDaa s = .next t) : surroundings t = surroundings s := by
  unfold execDaa at e
  split at e
  · injection e with e; subst e; rfl
  · split at e <;> injection e with e <;> subst e <;> rfl

theorem surroundings_wdArm (s : State) : surroundings (wdArm s) = surroundings s := by
  unfold wdArm
  split
  · dsimp only
    split <;> rfl
  · rfl

theorem surroundings_wdRes (s : State) : surroundings (wdRes s) = surroundings s := by
  unfold wdRes
  split <;> rfl

theorem surroundings_storeAbsent (s : State) : surroundings (storeAbsent s) = surroundings s := by
  simp [surroundings, storeAbsent]

/-- An instruction of the MPU, in each version. -/
theorem surroundings_mpuOrCpu (f g : State → State) (s t : State) (e : mpuOrCpu f g s = .next t)
    (hf : ∀ u, surroundings (f u) = surroundings u) (hg : ∀ u, surroundings (g u) = surroundings u) :
    surroundings t = surroundings s := by
  unfold mpuOrCpu at e
  split at e <;> injection e with e <;> subst e
  · exact hf _
  · unfold onCpu
    split
    · exact surroundings_illegalTrap2 s
    · exact hg _

theorem exec_surroundings (i : Instr) (s t : State) (e : exec i s = .next t) : surroundings t = surroundings s := by
  cases i
  case daa => exact surroundings_execDaa s t e
  case wdarm => exact surroundings_mpuOrCpu wdArm id s t e surroundings_wdArm fun _ => rfl
  case wdres => exact surroundings_mpuOrCpu wdRes id s t e surroundings_wdRes fun _ => rfl
  case ldmMmu | ldmMmuh | ldmsMmu | swap =>
    simp only [exec, execLdmMmu, execLdmMmuh, execLdmsMmu, execSwap] at e
    exact surroundings_mpuOrCpu _ _ s t e (fun _ => rfl) fun _ => rfl
  case ldmFromMmu | ldmFromMmuh =>
    simp only [exec, execLdmFromMmu, execLdmFromMmuh] at e
    exact surroundings_mpuOrCpu _ _ s t e (fun _ => by simp [surroundings, withShadow, passTable])
      surroundings_storeAbsent
  case ldmFromSys =>
    simp only [exec, execLdmFromSys] at e
    exact surroundings_mpuOrCpu _ _ s t e
      (fun _ => by simp [surroundings, withShadow, readStatus, clearStatus, passTable]) surroundings_storeAbsent
  all_goals injection e with e
  all_goals subst e
  case reti => exact surroundings_retiPulse _
  case ldir | lddr | cpir | cpdr | inir | indr | otir | otdr | otimr | otdmr =>
    refine (surroundings_finishIteration _ _ _).trans ?_
    simp [surroundings, transferStep, searchStep, inputStep, outputStep, otimStep, moveHl]
  case jpCcMn | jrCcE | djnz | retCc | callCcMn => split <;> simp [surroundings, returnFrom, callTo]
  all_goals
    simp [surroundings, accAdd, accAdc, accSub, accSbc, accAnd, accXor, accOr, accCp, accTst, writeAcc, incAt, decAt,
      shiftReg, shiftAt, rotateAcc, rotateDigit, testBit, loadSpecial, transferStep, searchStep, inputReg, inputStep,
      outputStep, otimStep, moveHl, returnFrom, callTo]

/-! ### Boundaries -/

theorem surroundings_dmaRelease (s : State) : surroundings (dmaRelease s) = surroundings s := by
  unfold dmaRelease
  split <;> rfl

theorem surroundings_nmiAck (s : State) : surroundings (nmiAck s) = surroundings s :=
  (surroundings_enterException _ _ _).trans rfl

theorem surroundings_intAck (s : State) : surroundings (intAck s) = surroundings s := by
  refine (surroundings_enterException _ _ _).trans ?_
  show surroundings (takeLine s) = surroundings s
  unfold takeLine
  split <;> rfl

theorem surroundings_maybePoke (la : Word) (v : Byte) (s : State) :
    surroundings (maybePoke la v s) = surroundings s := by
  unfold maybePoke
  dsimp only
  split <;> rfl

theorem surroundings_userReset (s : State) : surroundings (userReset s) = surroundings s := rfl

theorem surroundings_fatalReset (s : State) : surroundings (fatalReset s) = surroundings s := by
  unfold fatalReset mpuReset
  exact (surroundings_userReset _).trans ((surroundings_maybePoke _ _ _).trans (surroundings_maybePoke _ _ _))

/-- The state that the next action becomes, or from which its instruction runs. -/
def planState : Plan → State
  | .become t => t
  | .run _ t => t

theorem fetchPlan_surroundings (s : State) : surroundings (planState (fetchPlan s)) = surroundings s := by
  unfold fetchPlan
  split
  · exact surroundings_executeInhibitTrap _
  · split
    · exact surroundings_illegalTrap2 _
    · exact surroundings_illegalTrap3 _
    · rfl

theorem nextPlan_surroundings (s : State) : surroundings (planState (nextPlan s)) = surroundings s := by
  unfold nextPlan
  split
  · rfl
  · exact fetchPlan_surroundings s

theorem sampleRequests_surroundings (s : State) : surroundings (planState (sampleRequests s)) = surroundings s := by
  have released := surroundings_dmaRelease s
  unfold sampleRequests
  dsimp only
  split
  · rfl
  · split
    · exact (surroundings_nmiAck _).trans released
    · split
      · exact (surroundings_intAck _).trans released
      · exact (nextPlan_surroundings _).trans released

theorem boundary_surroundings (s : State) : surroundings (planState (boundary s)) = surroundings s := by
  unfold boundary
  split
  · exact surroundings_enterException _ _ _
  · split
    · exact nextPlan_surroundings _
    · exact sampleRequests_surroundings s

theorem haltCycle_surroundings (s : State) : surroundings (haltCycle s) = surroundings s := by
  have released := surroundings_dmaRelease s
  unfold haltCycle
  dsimp only
  split
  · rfl
  · split
    · exact (surroundings_nmiAck _).trans released
    · split
      · exact (surroundings_intAck _).trans released
      · exact released

theorem sleepCycle_surroundings (s : State) : surroundings (sleepCycle s) = surroundings s := by
  have released := surroundings_dmaRelease s
  unfold sleepCycle
  dsimp only
  split
  · rfl
  · split
    · exact (surroundings_nmiAck _).trans released
    · split
      · exact (surroundings_intAck _).trans released
      · split <;> exact released

theorem plan_surroundings (s : State) : surroundings (planState (plan s)) = surroundings s := by
  unfold plan
  dsimp only
  split
  · exact surroundings_fatalReset _
  · split
    · exact boundary_surroundings _
    · exact haltCycle_surroundings _
    · exact sleepCycle_surroundings _

/-- No action of the machine itself writes its surroundings. -/
theorem machineStep_surroundings (s t : State) (e : machineStep s = .next t) : surroundings t = surroundings s := by
  have h := plan_surroundings s
  unfold machineStep at e
  cases hp : plan s with
  | become u => rw [hp] at h e; injection e with e; subst e; exact h
  | run i u => rw [hp] at h e; exact (exec_surroundings i u t e).trans h

/-! ## A reset between two actions -/

theorem userReset_eq_afterReset (s : State) : userReset s = afterReset s := rfl

theorem afterReset_resetOf (c : Config) : afterReset (State.resetOf c) = State.resetOf c :=
  userReset_resetOf c

/-- An input between two actions of the machine is what the step does. -/
theorem step_between (s : State) (inp : Input) (h : s.sched = [(0, .between inp)]) :
    step s = .next (applyInput inp { s with sched := [] }) :=
  step_arrival s _ [] h

/-- R1000: the `resetb` pin of the CPU version. -/
theorem step_resetb (s : State) (hv : s.cfg.version = .cpu) (h : s.sched = [(0, .between .resetb)]) :
    step s = .next (afterReset { s with sched := [] }) := by
  rw [step_between s _ h]
  simp [applyInput, State.isMpu, hv, userReset_eq_afterReset]

/-- R1002: a transition on `reset_bus` is recorded and resets the MPU, with the new levels on the pins. -/
theorem applyPins_resetBus (s : State) (p : Pins) (hv : s.cfg.version = .mpu) (hp : p.resetBus ≠ s.pins.resetBus)
    (hr : p.refClock = s.pins.refClock) :
    applyPins p s =
      { afterReset { s with pins := p } with
        busLog := .resetOut :: s.busLog
        sys :=
          { s.sys with
            bus1Seen := s.sys.bus1Seen || (p.resetBus.getLsbD 1 != s.pins.resetBus.getLsbD 1)
            bus0Seen := s.sys.bus0Seen || (p.resetBus.getLsbD 0 != s.pins.resetBus.getLsbD 0) } } := by
  have hm : s.isMpu = true := by simp [State.isMpu, hv]
  have noEdge : (p.refClock && !s.pins.refClock) = false := by rw [hr]; cases s.pins.refClock <;> rfl
  have moved : (p.resetBus ^^^ s.pins.resetBus != 0#2) = true := by simpa using hp
  simp only [applyPins, hm, Bool.true_and, noEdge, moved, if_true, BitVec.getLsbD_xor, Bool.false_eq_true, if_false]
  rfl

/-- R1004: `clearb` in the CPU version writes the registers that a reset keeps and nothing else. -/
theorem applyClearb_cpu (s : State) (hv : s.cfg.version = .cpu) : RegistersOnly s (applyClearb s) := by
  simp [applyClearb, State.isMpu, hv, RegistersOnly, freeRegisters]

/-- R962: an upset records its address and resets the MPU, with the registers that a reset keeps free. -/
theorem applyFault_mpu (s : State) (la : Word) (hv : s.cfg.version = .mpu) :
    applyFault la s =
      { afterReset s with
        reg := (applyFault la s).reg, alt := (applyFault la s).alt
        ix := (applyFault la s).ix, iy := (applyFault la s).iy, free := (applyFault la s).free
        busLog := .resetOut :: .faultDetect :: s.busLog
        sys :=
          { s.sys with
            faultSeen := true, faultLog := la, faultPhys := (translate s la).extractLsb' 12 16 } } := by
  simp only [applyFault, hv]
  rfl

/-! ## A reset inside an action of the CPU version (R1000, R214) -/

/-- An instruction cut short keeps the registers it does not update. -/
theorem look_execCut (i : Instr) (s v : State) (p : Spot) (e : execCut i s = .next v) (h : p ∉ updates s.isMpu i) :
    look p v = look p s := by
  unfold execCut at e
  split at e
  · rename_i whole hw
    injection e with e
    subst e
    exact (look_spoil p _ whole h).trans (exec_updates i s whole p hw h)
  · cases e
  · cases e

/-- So does the action that fetches it, where nothing comes before the fetch. -/
theorem look_cut_quiet (s v : State) (i : Instr) (hq : Safety.Quiet s)
    (hd : decode (readMem s s.pc) (readMem s (s.pc + 1)) (readMem s (s.pc + 2)) (readMem s (s.pc + 3)) = .instr i)
    (e : (plan s).result execCut = .next v) (p : Spot) (hp : p ∉ updates s.isMpu i) : look p v = look p s := by
  obtain ⟨hf, hx⟩ := hq
  have empty : s.prefetched = none := by
    obtain ⟨-, -, -, -, -, -, -, -, -, -, -, empty, -, -⟩ := hf
    exact empty
  rw [plan_atFetch s hf, fetchPlan_instr s i hx empty hd] at e
  exact (look_execCut i _ v p e hp).trans (look_congr rfl rfl rfl rfl p)

/-- `look` at every register is what the statement's `KeptOutside` says register by register. -/
theorem keptOutside_of_look {us : List Spot} {s t : State} (h : ∀ p, p ∉ us → look p t = look p s) :
    KeptOutside us s t :=
  ⟨fun q hq => Held.byte.inj (h (.reg q) hq), fun hq => Held.flags.inj (h .flags hq),
    fun y hy => Held.word.inj (h (.idx y) hy), fun q hq => Held.byte.inj (h (.alt q) hq),
    fun hq => Held.flags.inj (h .altFlags hq)⟩

/-- The state after a reset that comes after `n` transactions of an action, of which `v` is the end with the updated
registers free. -/
def resetInside (n : Nat) (s v : State) : State := userReset (cutShort n ((plan s).stores s) s v)

/-- A reset inside an action of the CPU version, in which no wait request is held: the action is cut short. -/
theorem insideStep_resetb (s u : State) (n : Nat) (hv : s.cfg.version = .cpu) (hl : s.late = [])
    (e : machineStep s = .next u) :
    ∃ v, (plan s).result execCut = .next v ∧ RegistersOnly u v ∧
      insideStep [] n .resetb s = .next (resetInside n s v) := by
  have hm : s.isMpu = false := by simp [State.isMpu, hv]
  obtain ⟨v, hcut, hreg⟩ := plan_execCut (plan s) u e
  have hcfg : v.cfg = s.cfg := (congrArg State.cfg hreg).trans (congrArg Prod.fst (machineStep_surroundings s u e))
  have inTime : { s with late := lateBytes s (fun _ => s.pins) (heldBefore []) } = s := by
    cases s; cases hl; rfl
  have sameInhibit : withInhibit (inhibitDuring n [] s u) s = s := by simp [inhibitDuring, hm, withInhibit]
  refine ⟨v, hcut, hreg, ?_⟩
  simp only [insideStep, cuts, hm, cutStep, inTime, e, sameInhibit, hcut]
  simp [recordWaits, heldBefore, applyInput, State.isMpu, cutShort, hcfg, hv, resetInside]

section Cut

variable {s u v : State} {n : Nat}

/-- What the reset leaves is as `afterReset` says, but for the registers and what the action had done by then. -/
theorem resetInside_frame (hv : surroundings v = surroundings s) (hl : s.late = []) :
    resetInside n s v =
      { afterReset s with
        reg := (resetInside n s v).reg, alt := (resetInside n s v).alt
        ix := (resetInside n s v).ix, iy := (resetInside n s v).iy
        mem := (resetInside n s v).mem, sys := (resetInside n s v).sys
        busLog := (resetInside n s v).busLog, ioIn := (resetInside n s v).ioIn
        free := (resetInside n s v).free } := by
  simp only [surroundings, Prod.mk.injEq] at hv
  obtain ⟨hc, hr, -, -, hs⟩ := hv
  simp only [resetInside, userReset, cutShort, afterReset, hc, hr, hs, hl]
  rfl

theorem registersOnly_mem (h : RegistersOnly u v) : v.mem = u.mem := by rw [h]
theorem registersOnly_busLog (h : RegistersOnly u v) : v.busLog = u.busLog := by rw [h]
theorem registersOnly_surroundings (h : RegistersOnly u v) : surroundings v = surroundings u := by rw [h]; rfl

/-- The memory writes before the reset are done, and no other. -/
theorem resetInside_mem (h : RegistersOnly u v) (pa : Nat) :
    (resetInside n s v).mem.get pa =
      if pa ∈ physical s (((plan s).stores s).take (writesBefore n s v)) then u.mem.get pa else s.mem.get pa := by
  rw [← registersOnly_mem h]
  exact copyBytes_get ..

theorem newEvents_registersOnly (h : RegistersOnly u v) : newEvents s v = newEvents s u := by
  simp only [newEvents, registersOnly_busLog h]

/-- The events seen are some of the action's, in their order. -/
theorem resetInside_busLog (h : RegistersOnly u v) :
    ∃ es, es.Sublist (newEvents s u) ∧ (resetInside n s v).busLog = es ++ s.busLog :=
  ⟨_, newEvents_registersOnly h ▸ List.filter_sublist, rfl⟩

/-- A transaction that leads the action has been seen if any memory write has been done. -/
theorem resetInside_leads (h : RegistersOnly u v) (hk : 0 < writesBefore n s v) (e : BusEvent)
    (he : e ∈ newEvents s u) (hl : e.leads = true) : e ∈ (resetInside n s v).busLog := by
  rw [← newEvents_registersOnly h] at he
  exact List.mem_append_left _ (List.mem_filter.2 ⟨he, happened_leads n _ s v e he hl hk⟩)

/-- Of `n` transactions all are memory writes but at most one. -/
theorem writesBefore_bounds : writesBefore n s v ≤ n ∧ n ≤ writesBefore n s v + 1 := by
  unfold writesBefore
  split <;> omega

theorem resetInside_kept (hcut : (plan s).result execCut = .next v) (hv : s.cfg.version = .cpu)
    (i : Instr) (hq : Safety.Quiet s)
    (hd : decode (readMem s s.pc) (readMem s (s.pc + 1)) (readMem s (s.pc + 2)) (readMem s (s.pc + 3)) = .instr i) :
    KeptOutside (updates false i) s (resetInside n s v) := by
  have hm : s.isMpu = false := by simp [State.isMpu, hv]
  refine keptOutside_of_look fun p hp => ?_
  exact (look_congr rfl rfl rfl rfl p).trans (look_cut_quiet s v i hq hd hcut p (hm ▸ hp))

end Cut

/-- Where an action writes does not depend on what the platform will do later. -/
theorem planStores_sched (p : Plan) (s : State) (rest : List (Nat × Arrival)) :
    p.stores { s with sched := rest } = p.stores s := by
  cases p <;> rfl

/-! ## The state right after reset -/

theorem inv_resetOf (c : Config) : Inv (State.resetOf c) := by
  refine ⟨rfl, ?_, ?_, (by decide : Safety.atMostOneBit 0#8 = true), fun _ => rfl, Nat.zero_le _,
    fun _ => (by decide : 0#16 &&& ~~~0#16 = 0#16), Nat.zero_le _, Nat.zero_le _,
    fun _ => Nat.zero_le _, fun _ => Nat.zero_le _, rfl⟩
  · intro i held; cases held
  · intro la b buffered; cases buffered

/-- Settles O60: `inv_resetOf` at the default parameters and at any others. -/
theorem invariantAtReset : Obligations.InvariantAtReset := ⟨inv_resetOf _, inv_resetOf⟩

/-- Settles O58, clause by clause from the lemmas above: the reset itself; `resetb` and `reset_bus` between two actions;
`resetb` inside one, whose end `v` with the updated registers free is what `resetInside` cuts short; `clearb`; an upset;
and the state right after reset. -/
theorem userResetValues : Obligations.UserResetValues := by
  refine ⟨userReset_eq_afterReset, step_resetb, ?_, ?_, ?_, ?_, ?_, rfl⟩
  · intro s p hv hp hs hr
    exact ⟨_, step_between s _ hs, applyPins_resetBus _ p hv hp hr⟩
  · intro s u n hv hl hs e
    obtain ⟨v, hcut, hreg, hstep⟩ := insideStep_resetb { s with sched := [] } u n hv hl e
    have around : surroundings v = surroundings { s with sched := [] } :=
      (registersOnly_surroundings hreg).trans (machineStep_surroundings _ u e)
    refine ⟨_, (step_arrival s _ [] hs).trans hstep, resetInside_frame around hl,
      ⟨writesBefore n { s with sched := [] } v, fun pa => ?_, resetInside_busLog (s := { s with sched := [] }) hreg,
        resetInside_leads (s := { s with sched := [] }) hreg, writesBefore_bounds⟩,
      fun i hq hd => resetInside_kept hcut hv i hq hd⟩
    rw [← planStores_sched _ s []]
    exact resetInside_mem hreg pa
  · intro s hv hs
    exact ⟨_, step_between s _ hs, applyClearb_cpu { s with sched := [] } hv⟩
  · intro s la hv hs
    exact ⟨_, step_between s _ hs, applyFault_mpu { s with sched := [] } la hv⟩
  · intro c
    exact ⟨afterReset_resetOf c, rfl, rfl, rfl, rfl⟩

end Sys2Proof.Proofs
end

section
/-! PROOFS. Translation by the active MMU registers (O42), and the invariant along every step (O59). -/

namespace Sys2Proof.Proofs

open Sys2Proof Sys2Proof.Machine Sys2Proof.Claims

-- One theorem at a time, as above.
set_option Elab.async false

/-! ## Translation (R209, R210) -/

/-- R209: the active register of the page gives bits 27:12 of the physical address. -/
theorem translate_mpu_toNat (s : State) (la : Word) (page : Fin 16) (hv : s.cfg.version = .mpu)
    (hp : la.toNat / 4096 = page.val) :
    (translate s la).toNat = 4096 * (s.mmu.get page).toNat + la.toNat % 4096 := by
  have chosen : (la.extractLsb' 12 4).toFin = page := by
    apply Fin.ext
    have := page.isLt
    simp only [BitVec.val_toFin, BitVec.extractLsb'_toNat, Nat.shiftRight_eq_div_pow]
    omega
  simp only [Machine.translate, hv, chosen, BitVec.toNat_append, BitVec.extractLsb'_toNat, Nat.shiftRight_zero]
  rw [Nat.shiftLeft_eq, Nat.mul_comm, ← Nat.two_pow_add_eq_or_of_lt (Nat.mod_lt _ (by decide))]

/-- R209: the CPU version translates nothing. -/
theorem translate_cpu_toNat (s : State) (la : Word) (hv : s.cfg.version = .cpu) :
    (translate s la).toNat = la.toNat := by
  have := la.isLt
  simp only [Machine.translate, hv, BitVec.toNat_setWidth]
  omega

/-- R123, R210: register N of the context after reset holds N. -/
theorem mmuIdentity_get (page : Fin 16) : (mmuIdentity.get page).toNat = page.val := by
  have := page.isLt
  have entry : mmuIdentity.get page = BitVec.ofNat 16 page.val := Vector.getElem_ofFn page.isLt
  rw [entry, BitVec.toNat_ofNat]
  omega

/-- Under the context of a reset the physical address is the logical one, in both versions. -/
theorem translate_identity (s : State) (la : Word) (hm : s.mmu = mmuIdentity) :
    (translate s la).toNat = la.toNat := by
  cases hv : s.cfg.version with
  | cpu => exact translate_cpu_toNat s la hv
  | mpu =>
    have page : la.toNat / 4096 < 16 := by have := la.isLt; omega
    rw [translate_mpu_toNat s la ⟨_, page⟩ hv rfl, hm, mmuIdentity_get]
    exact Nat.div_add_mod la.toNat 4096

/-- Settles O42: `translate` in each version, and the context that a reset leaves. -/
theorem addressTranslation : Obligations.AddressTranslation :=
  ⟨translate_mpu_toNat, translate_cpu_toNat, fun s la => translate_identity (userReset s) la rfl,
    fun c la => translate_identity (State.resetOf c) la rfl⟩

/-! ## The invariant, but for the reads left late -/

/-- The clauses of `Inv` but the last: the part that holds inside an action too, where reads may be late. -/
structure Sound (s : State) : Prop where
  memory : s.mem.wf = true
  held : ∀ i, s.repeating = some i → Safety.repeats i = true
  buffered : ∀ la b, s.prefetched = some (la, b) → isPrefixByte b = true
  oneServed : Safety.atMostOneBit s.dma.dus = true
  servedInGrant : s.dma.ack = false → s.dma.dus = 0
  armTimer : s.wdt.arm ≤ 256
  latched : s.cfg.version = .mpu → s.irq &&& ~~~s.pins.intReqEn = 0
  edges : s.rti.edges ≤ 2
  missed : s.rti.missed ≤ 3
  dreqFlag : s.cfg.dreqAcc = false → s.sys.dreqStat.toNat ≤ 1
  waitFlag : s.cfg.waitAcc = false → s.sys.waitStat.toNat ≤ 1

theorem inv_iff_sound (s : State) : Inv s ↔ Sound s ∧ s.late = [] := by
  constructor
  · rintro ⟨h1, h2, h3, h4, h5, h6, h7, h8, h9, h10, h11, inTime⟩
    exact ⟨⟨h1, h2, h3, h4, h5, h6, h7, h8, h9, h10, h11⟩, inTime⟩
  · rintro ⟨⟨h1, h2, h3, h4, h5, h6, h7, h8, h9, h10, h11⟩, inTime⟩
    exact ⟨h1, h2, h3, h4, h5, h6, h7, h8, h9, h10, h11, inTime⟩

/-- What `Sound` looks at. -/
def watched (s : State) :
    Config × Memory × Option Instr × Option (Word × Byte) × Dma × Nat × BitVec 16 × BitVec 16 × Rti × Byte × Byte :=
  (s.cfg, s.mem, s.repeating, s.prefetched, s.dma, s.wdt.arm, s.irq, s.pins.intReqEn, s.rti, s.sys.dreqStat,
    s.sys.waitStat)

section

variable {s t : State}

/-- `Sound` carries over to a state that looks the same to it. -/
theorem Sound.of (h : Sound s) (e : watched t = watched s) : Sound t := by
  simp only [watched, Prod.mk.injEq] at e
  obtain ⟨hcfg, hmem, hheld, hbuf, hdma, harm, hirq, hen, hrti, hdreq, hwait⟩ := e
  exact
    { memory := hmem ▸ h.memory
      held := hheld ▸ h.held
      buffered := hbuf ▸ h.buffered
      oneServed := hdma ▸ h.oneServed
      servedInGrant := hdma ▸ h.servedInGrant
      armTimer := harm ▸ h.armTimer
      latched := by rw [hcfg, hirq, hen]; exact h.latched
      edges := hrti ▸ h.edges
      missed := hrti ▸ h.missed
      dreqFlag := by rw [hcfg, hdreq]; exact h.dreqFlag
      waitFlag := by rw [hcfg, hwait]; exact h.waitFlag }

theorem sound_congr (e : watched t = watched s) : Sound t ↔ Sound s := ⟨fun h => h.of e.symm, fun h => h.of e⟩

/-! ### The operations an instruction is written over -/

@[simp] theorem sound_setPc (w : Word) : Sound (s.setPc w) ↔ Sound s := sound_congr rfl
@[simp] theorem sound_advance (k : Word) : Sound (advance k s) ↔ Sound s := sound_congr rfl
@[simp] theorem sound_emit (e : BusEvent) : Sound (s.emit e) ↔ Sound s := sound_congr rfl
@[simp] theorem sound_writeFlags (f : Flags) : Sound (writeFlags f s) ↔ Sound s := sound_congr rfl
@[simp] theorem sound_writeAcc (v : Byte) (f : Flags) : Sound (writeAcc v f s) ↔ Sound s := sound_congr rfl
@[simp] theorem sound_dropStack : Sound (dropStack s) ↔ Sound s := sound_congr rfl
@[simp] theorem sound_ioWrite (port : Word) (v : Byte) : Sound (ioWrite port v s) ↔ Sound s := sound_congr rfl
@[simp] theorem sound_ioReadDone (port : Word) : Sound (ioReadDone port s) ↔ Sound s :=
  sound_congr (by simp [watched])
@[simp] theorem sound_setR (r : R8) (v : Byte) : Sound (setR r v s) ↔ Sound s := sound_congr (by simp [watched])
@[simp] theorem sound_setPair (p : Pair) (w : Word) : Sound (setPair p w s) ↔ Sound s :=
  sound_congr (by simp [watched])
@[simp] theorem sound_setIdx (y : Idx) (w : Word) : Sound (setIdx y w s) ↔ Sound s :=
  sound_congr (by simp [watched])
@[simp] theorem sound_sp (w : Word) : Sound { s with sp := w } ↔ Sound s := sound_congr rfl
@[simp] theorem sound_free (n : Nat) : Sound { s with free := n } ↔ Sound s := sound_congr rfl
@[simp] theorem sound_illegalIffs : Sound (illegalIffs s) ↔ Sound s :=
  sound_congr (by unfold illegalIffs; split <;> rfl)

/-- A store keeps memory canonical, and an inhibited one writes no time-out status. -/
@[simp] theorem sound_writeMem (k : WriteKind) (la : Word) (v : Byte) (h : Sound s) : Sound (writeMem k la v s) := by
  have memory := writeMem_wf k la v s h.memory
  rw [writeMem_spec] at memory ⊢
  refine { h with memory := memory, dreqFlag := ?_, waitFlag := ?_ }
  · dsimp only; split <;> exact h.dreqFlag
  · dsimp only; split <;> exact h.waitFlag

@[simp] theorem sound_writeMem16 (k : WriteKind) (la w : Word) (h : Sound s) : Sound (writeMem16 k la w s) :=
  sound_writeMem _ _ _ (sound_writeMem _ _ _ h)

@[simp] theorem sound_writeBytes (la : Word) (vs : List Byte) (h : Sound s) : Sound (writeBytes la vs s) := by
  induction vs generalizing la s with
  | nil => exact h
  | cons v vs ih => exact ih _ (sound_writeMem _ _ _ h)

@[simp] theorem sound_push16 (w : Word) (h : Sound s) : Sound (push16 w s) :=
  (sound_sp _).2 (sound_writeMem _ _ _ (sound_writeMem _ _ _ h))

/-- An exception drops what was fetched and pushes. -/
@[simp] theorem sound_enterException (saved target : Word) (h : Sound s) : Sound (enterException saved target s) := by
  have dropped : Sound (dropFetch s) := { h with held := nofun, buffered := nofun }
  exact (sound_setPc target).2 (sound_push16 saved dropped)

@[simp] theorem sound_illegalTrap2 (h : Sound s) : Sound (illegalTrap2 s) := by
  refine sound_enterException _ _ ((sound_emit _).2 (sound_illegalIffs.2 ?_))
  split
  · exact h.of rfl
  · exact h

theorem sound_illegalTrap3 (h : Sound s) : Sound (illegalTrap3 s) := by
  refine sound_enterException _ _ ((sound_emit _).2 (sound_illegalIffs.2 ?_))
  split
  · exact h.of rfl
  · exact h

theorem sound_executeInhibitTrap (h : Sound s) : Sound (executeInhibitTrap s) := by
  unfold executeInhibitTrap
  dsimp only
  split
  · exact h.of rfl
  · exact sound_enterException _ _ (h.of rfl)

/-- An iteration that repeats holds an instruction of the ten. -/
theorem sound_finishIteration (again : Bool) (i : Instr) (hi : Safety.repeats i = true) (h : Sound s) :
    Sound (finishIteration again i s) := by
  unfold finishIteration
  split
  · exact { h with held := fun j e => Option.some.inj e ▸ hi }
  · exact { h with held := nofun }

@[simp] theorem sound_retiPulse : Sound (retiPulse s) ↔ Sound s := by
  refine sound_congr ?_
  unfold retiPulse
  split
  · rfl
  · split <;> rfl

/-! ### The instructions of the MPU -/

@[simp] theorem sound_withShadow : Sound (withShadow s) ↔ Sound s := sound_congr rfl
@[simp] theorem sound_passTable : Sound (passTable s) ↔ Sound s := sound_setPair _ _
@[simp] theorem sound_swapContexts : Sound (swapContexts s) ↔ Sound s := sound_congr rfl
@[simp] theorem sound_mmuBuf (m : MmuSet) : Sound { s with mmuBuf := m } ↔ Sound s := sound_congr rfl

theorem sound_wdArm (h : Sound s) : Sound (wdArm s) := by
  unfold wdArm
  split
  · dsimp only
    split <;> exact { h with armTimer := Nat.le_refl 256 }
  · exact h

theorem sound_wdRes (h : Sound s) : Sound (wdRes s) := by
  unfold wdRes
  split
  · exact h
  · exact h.of rfl

theorem sound_storeAbsent (h : Sound s) : Sound (storeAbsent s) :=
  (sound_free _).2 (sound_writeBytes _ _ h)

/-- The clearing of LDM (HL),SYS sets both time-out statuses to 0 (R866). -/
theorem sound_clearStatus (own : Bool) (h : Sound s) : Sound (clearStatus own s) :=
  { h with dreqFlag := fun _ => Nat.zero_le 1, waitFlag := fun _ => Nat.zero_le 1 }

theorem sound_readStatus (h : Sound s) : Sound (readStatus s) :=
  (sound_emit _).2 (sound_clearStatus _ (sound_passTable.2 (sound_writeBytes _ _ h)))

theorem sound_mpuOrCpu (f g : State → State) (e : mpuOrCpu f g s = .next t) (h : Sound s)
    (hf : ∀ u, Sound u → Sound (f u)) (hg : ∀ u, Sound u → Sound (g u)) : Sound t := by
  have past : Sound (advance 2#16 s) := (sound_advance _).2 h
  unfold mpuOrCpu at e
  split at e <;> injection e with e <;> subst e
  · exact hf _ past
  · unfold onCpu
    split
    · exact sound_illegalTrap2 h
    · exact hg _ past

/-! ### Every instruction -/

theorem sound_execDaa (e : execDaa s = .next t) (h : Sound s) : Sound t := by
  unfold execDaa at e
  split at e
  · injection e with e; subst e; exact h.of rfl
  · split at e <;> injection e with e <;> subst e <;> exact h.of rfl

theorem exec_sound (i : Instr) (s t : State) (e : exec i s = .next t) (h : Sound s) : Sound t := by
  cases i
  case daa => exact sound_execDaa e h
  case wdarm => exact sound_mpuOrCpu wdArm id e h (fun _ => sound_wdArm) fun _ => id
  case wdres => exact sound_mpuOrCpu wdRes id e h (fun _ => sound_wdRes) fun _ => id
  case ldmMmu | ldmMmuh | ldmsMmu | swap =>
    simp only [exec, execLdmMmu, execLdmMmuh, execLdmsMmu, execSwap] at e
    exact sound_mpuOrCpu _ _ e h (fun _ hu => by simp [hu]) fun _ => id
  case ldmFromMmu | ldmFromMmuh =>
    simp only [exec, execLdmFromMmu, execLdmFromMmuh] at e
    exact sound_mpuOrCpu _ _ e h (fun _ hu => by simp [hu]) fun _ => sound_storeAbsent
  case ldmFromSys =>
    simp only [exec, execLdmFromSys] at e
    exact sound_mpuOrCpu _ _ e h (fun _ hu => sound_withShadow.2 (sound_readStatus hu)) fun _ => sound_storeAbsent
  all_goals injection e with e
  all_goals subst e
  case ldir | lddr | cpir | cpdr | inir | indr | otir | otdr | otimr | otdmr =>
    refine sound_finishIteration _ _ rfl ?_
    simp [transferStep, searchStep, inputStep, outputStep, otimStep, moveHl, h]
  case jpCcMn | jrCcE | retCc | callCcMn => split <;> simp [returnFrom, callTo, h]
  case djnz => split <;> exact h.of rfl
  case exDeHl | exAfAf | exx | halt | slp | di | ei | im0 | im1 | im2 | ldIA | ldRA | ldSpHl | ldSpXy | retn =>
    exact h.of rfl
  all_goals
    simp [accAdd, accAdc, accSub, accSbc, accAnd, accXor, accOr, accCp, accTst, incAt, decAt, shiftReg, shiftAt,
      rotateAcc, rotateDigit, testBit, loadSpecial, transferStep, searchStep, inputReg, inputStep, outputStep,
      otimStep, moveHl, returnFrom, callTo, h]

/-! ### Fetch and boundaries -/

/-- What is prefetched passes `isPrefixByte` (R218). -/
theorem prefetchedAfter_isPrefix (i : Instr) (s : State) (la : Word) (b : Byte)
    (e : prefetchedAfter i s = some (la, b)) : isPrefixByte b = true := by
  unfold prefetchedAfter at e
  dsimp only at e
  split at e
  · rename_i prefetched
    simp only [Bool.and_eq_true] at prefetched
    obtain ⟨⟨-, isPrefix⟩, -⟩ := prefetched
    obtain ⟨-, rfl⟩ := Prod.mk.inj (Option.some.inj e)
    exact isPrefix
  · cases e

theorem sound_afterFetch (h : Sound s) : Sound (afterFetch s) := { h with buffered := nofun }

theorem fetchPlan_sound (h : Sound s) : Sound (planState (fetchPlan s)) := by
  unfold fetchPlan
  split
  · exact sound_executeInhibitTrap (sound_afterFetch h)
  · split
    · exact sound_illegalTrap2 (sound_afterFetch h)
    · exact sound_illegalTrap3 (sound_afterFetch h)
    · exact { h with buffered := prefetchedAfter_isPrefix _ s }

theorem nextPlan_sound (h : Sound s) : Sound (planState (nextPlan s)) := by
  unfold nextPlan
  split
  · exact h
  · exact fetchPlan_sound h

theorem atMostOneBit_zero : Safety.atMostOneBit 0#8 = true := by decide

/-- A byte with one bit set, or none where the shift is past its end. -/
theorem atMostOneBit_shift (k : Nat) : Safety.atMostOneBit (1#8 <<< k) = true := by
  by_cases hk : k < 8
  · exact (by decide : ∀ k < 8, Safety.atMostOneBit (1#8 <<< k) = true) k hk
  · rw [BitVec.shiftLeft_eq_zero (Nat.le_of_not_lt hk)]
    exact atMostOneBit_zero

/-- R942: one DMA at most is served. -/
theorem atMostOneBit_dmaServed (s : State) : Safety.atMostOneBit (dmaServed s) = true := by
  unfold dmaServed
  split
  · exact atMostOneBit_zero
  · split
    · exact atMostOneBit_shift _
    · exact atMostOneBit_zero

theorem sound_dmaGrant (h : Sound s) : Sound (dmaGrant s) :=
  { h with buffered := nofun, oneServed := atMostOneBit_dmaServed s, servedInGrant := nofun }

theorem sound_dmaRelease (h : Sound s) : Sound (dmaRelease s) := by
  unfold dmaRelease
  split
  · exact { h with oneServed := atMostOneBit_zero, servedInGrant := fun _ => rfl }
  · exact { h with }

theorem sound_nmiAck (h : Sound s) : Sound (nmiAck s) := sound_enterException _ _ (h.of rfl)

/-- An acknowledge clears a latched request and sets none (R932). -/
theorem sound_takeLine (h : Sound s) : Sound (takeLine s) := by
  unfold takeLine
  split
  · rename_i k _
    refine { h with latched := fun hv => ?_ }
    show s.irq &&& ~~~bitAt k &&& ~~~s.pins.intReqEn = 0
    rw [BitVec.and_assoc, BitVec.and_comm (~~~bitAt k), ← BitVec.and_assoc, h.latched hv]
    exact BitVec.zero_and
  · exact h

theorem sound_intAck (h : Sound s) : Sound (intAck s) := sound_enterException _ _ ((sound_takeLine h).of rfl)

theorem sampleRequests_sound (h : Sound s) : Sound (planState (sampleRequests s)) := by
  have released := sound_dmaRelease h
  unfold sampleRequests
  dsimp only
  split
  · exact sound_dmaGrant h
  · split
    · exact sound_nmiAck released
    · split
      · exact sound_intAck released
      · exact nextPlan_sound (released.of rfl)

theorem boundary_sound (h : Sound s) : Sound (planState (boundary s)) := by
  unfold boundary
  split
  · exact sound_enterException _ _ (h.of rfl)
  · split
    · exact nextPlan_sound (h.of rfl)
    · exact sampleRequests_sound h

theorem haltCycle_sound (h : Sound s) : Sound (haltCycle s) := by
  have released := sound_dmaRelease h
  unfold haltCycle
  dsimp only
  split
  · exact sound_dmaGrant h
  · split
    · exact sound_nmiAck released
    · split
      · exact sound_intAck released
      · exact released

theorem sleepCycle_sound (h : Sound s) : Sound (sleepCycle s) := by
  have released := sound_dmaRelease h
  unfold sleepCycle
  dsimp only
  split
  · exact sound_dmaGrant h
  · split
    · exact sound_nmiAck released
    · split
      · exact sound_intAck released
      · split <;> exact released.of rfl

/-- A reset empties what `Sound` looks at, but for memory, the generator and the status latches (R123). -/
theorem sound_userReset (h : Sound s) : Sound (userReset s) :=
  { h with
    held := nofun
    buffered := nofun
    oneServed := atMostOneBit_zero
    servedInGrant := fun _ => rfl
    armTimer := Nat.zero_le 256
    latched := fun _ => BitVec.zero_and }

theorem sound_mpuReset (h : Sound s) : Sound (mpuReset s) := (sound_emit _).2 (sound_userReset h)

theorem sound_maybePoke (la : Word) (v : Byte) (h : Sound s) : Sound (maybePoke la v s) := by
  unfold maybePoke
  dsimp only
  split
  · exact { h with memory := Memory.wf_set _ _ _ (BitVec.isLt _) h.memory }
  · exact h.of rfl

theorem sound_fatalReset (h : Sound s) : Sound (fatalReset s) :=
  sound_mpuReset (sound_maybePoke _ _ (sound_maybePoke _ _ h))

theorem plan_sound (h : Sound s) : Sound (planState (plan s)) := by
  have sampled : Sound (sampleNmi s) := h.of rfl
  unfold plan
  dsimp only
  split
  · exact sound_fatalReset sampled
  · split
    · exact boundary_sound sampled
    · exact haltCycle_sound sampled
    · exact sleepCycle_sound sampled

/-- An action of the machine itself keeps `Sound`. -/
theorem machineStep_sound (e : machineStep s = .next t) (h : Sound s) : Sound t := by
  have planned := plan_sound h
  unfold machineStep at e
  cases hp : plan s with
  | become u => rw [hp] at planned e; injection e with e; subst e; exact planned
  | run i u => rw [hp] at planned e; exact exec_sound i u t e planned

/-! ### The generator -/

/-- The counts of the generator within their bounds (R957, R958). -/
def RtiBounded (r : Rti) : Prop := r.edges ≤ 2 ∧ r.missed ≤ 3

theorem rtiWatch_bounded (r : Rti) (h : RtiBounded r) : RtiBounded (rtiWatch r) := by
  obtain ⟨edges, missed⟩ := h
  unfold rtiWatch
  split
  · exact ⟨edges, missed⟩
  · split
    · exact ⟨edges, Nat.le_of_lt ‹_›⟩
    · exact ⟨Nat.zero_le 2, Nat.le_refl 3⟩

theorem rtiReload_bounded (p : Pins) (n : Nat) (r : Rti) (h : RtiBounded r) : RtiBounded (rtiReload p n r) := by
  rw [rtiReload_measure]
  exact h

theorem rtiStart_bounded (p : Pins) (r : Rti) (h : RtiBounded r) : RtiBounded (rtiStart p r) := by
  unfold rtiStart
  split <;> exact h

theorem rtiRun_bounded (fuel n : Nat) (s : State) (h : RtiBounded s.rti) : RtiBounded (rtiRun fuel n s).rti := by
  induction fuel generalizing n s with
  | zero => exact h
  | succ fuel ih =>
    have started := rtiStart_bounded s.pins s.rti h
    rw [rtiRun]
    split
    · exact started
    · split
      · exact started
      · exact ih _ _ (rtiReload_bounded _ _ _ (rtiWatch_bounded _ started))

theorem rtiClocks_bounded (n : Nat) (s : State) (h : RtiBounded s.rti) : RtiBounded (rtiClocks n s).rti := by
  unfold rtiClocks
  split
  · exact h
  · exact rtiWatch_bounded _ (rtiRun_bounded _ n s h)

theorem rtiPassEdge_bounded (s : State) (h : RtiBounded s.rti) : RtiBounded (rtiPassEdge s).rti := by
  unfold rtiPassEdge
  split <;> exact h

theorem rtiAlign_bounded (running : Bool) (s : State) (h : RtiBounded s.rti) :
    RtiBounded (rtiAlign running s).rti := by
  unfold rtiAlign
  split <;> exact h

theorem rtiEdge_bounded (s : State) : RtiBounded (rtiEdge s).rti := by
  unfold rtiEdge
  dsimp only
  split
  · exact rtiPassEdge_bounded _ ⟨Nat.le_succ 1, Nat.zero_le 3⟩
  · exact rtiPassEdge_bounded _ (rtiAlign_bounded _ _ ⟨Nat.le_refl 2, Nat.zero_le 3⟩)

theorem rtiOnly_passEdge (only : RtiOnly s t) : RtiOnly s (rtiPassEdge t) := by
  refine only.trans ?_
  unfold rtiPassEdge
  split <;> rfl

theorem rtiOnly_align (running : Bool) (only : RtiOnly s t) : RtiOnly s (rtiAlign running t) := by
  refine only.trans ?_
  unfold rtiAlign
  split <;> rfl

theorem rtiEdge_only (s : State) : RtiOnly s (rtiEdge s) := by
  unfold rtiEdge
  dsimp only
  split
  · exact rtiOnly_passEdge rfl
  · exact rtiOnly_passEdge (rtiOnly_align _ rfl)

theorem sound_rtiOnly (only : RtiOnly s t) (bounded : RtiBounded t.rti) (h : Sound s) : Sound t := by
  rw [only]
  exact { h with edges := bounded.1, missed := bounded.2 }

/-! ## What an input keeps -/

/-- What every input of the platform keeps: `Sound`, the parameters, and the reads left late. -/
structure Keeps (s t : State) : Prop where
  sound : Sound s → Sound t
  cfg : t.cfg = s.cfg
  late : t.late = s.late

theorem Keeps.trans {u : State} (h : Keeps s t) (k : Keeps t u) : Keeps s u :=
  ⟨fun hs => k.sound (h.sound hs), k.cfg.trans h.cfg, k.late.trans h.late⟩

theorem Keeps.thenReset (h : Keeps s t) : Keeps s (mpuReset t) := h.trans ⟨sound_mpuReset, rfl, rfl⟩

theorem keeps_rtiOnly (only : RtiOnly s t) (bounded : RtiBounded s.rti → RtiBounded t.rti) : Keeps s t where
  sound h := sound_rtiOnly only (bounded ⟨h.edges, h.missed⟩) h
  cfg := by rw [only]
  late := by rw [only]

/-- R931, R932: in the MPU a request is latched on an enabled input only. -/
theorem keeps_latchRequests (p : Pins) : Keeps s (latchRequests p s) where
  sound h :=
    { h with
      latched := fun hv => by
        have hm : s.isMpu = true := by simp only [State.isMpu, show s.cfg.version = .mpu from hv]; rfl
        show (if s.isMpu then (s.irq ||| (p.intReqBus &&& ~~~s.pins.intReqBus)) &&& p.intReqEn else s.irq) &&&
          ~~~p.intReqEn = 0
        rw [if_pos hm, BitVec.and_assoc, BitVec.and_not_self]
        exact BitVec.and_zero }
  cfg := rfl
  late := rfl

theorem keeps_rtiEdge : Keeps s (rtiEdge s) := keeps_rtiOnly (rtiEdge_only s) fun _ => rtiEdge_bounded s

theorem keeps_applyPins (p : Pins) : Keeps s (applyPins p s) := by
  have edged : Keeps s
      (if s.isMpu && p.refClock && !s.pins.refClock then rtiEdge (latchRequests p s) else latchRequests p s) := by
    split
    · exact (keeps_latchRequests p).trans keeps_rtiEdge
    · exact keeps_latchRequests p
  unfold applyPins
  dsimp only
  split
  · exact Keeps.thenReset (edged.trans ⟨fun h => h.of rfl, rfl, rfl⟩)
  · exact edged

/-- R951: a time-out that is not counted leaves a flag of 1. -/
theorem bumpStatus_flag (b : Byte) : (bumpStatus false b).toNat ≤ 1 := Nat.le_refl 1

theorem keeps_dmaClocks (n : Nat) : Keeps s (dmaClocks n s) := by
  unfold dmaClocks
  split
  · exact ⟨id, rfl, rfl⟩
  · split
    · dsimp only
      split
      · refine ⟨fun h => ?_, rfl, rfl⟩
        refine { h with oneServed := atMostOneBit_zero, servedInGrant := fun _ => rfl, dreqFlag := fun hd => ?_ }
        show (bumpStatus s.cfg.dreqAcc s.sys.dreqStat).toNat ≤ 1
        rw [show s.cfg.dreqAcc = false from hd]
        exact bumpStatus_flag _
      · exact ⟨fun h => { h with }, rfl, rfl⟩
    · exact ⟨fun h => { h with }, rfl, rfl⟩

theorem keeps_wdtClocks (n : Nat) : Keeps s (wdtClocks n s) := by
  unfold wdtClocks
  split
  · exact ⟨id, rfl, rfl⟩
  · exact ⟨fun h => { h with armTimer := Nat.le_trans (Nat.sub_le _ n) h.armTimer }, rfl, rfl⟩

theorem keeps_timers (n : Nat) : Keeps s (timers n s) :=
  ((keeps_rtiOnly (rtiClocks_only n s) (rtiClocks_bounded n s)).trans (keeps_dmaClocks n)).trans (keeps_wdtClocks n)

theorem keeps_wdtTimeout : Keeps s (wdtTimeout s) := Keeps.thenReset ⟨fun h => h.of rfl, rfl, rfl⟩

theorem keeps_applyClocks (n : Nat) : Keeps s (applyClocks n s) := by
  unfold applyClocks
  split
  · exact ((keeps_timers _).trans keeps_wdtTimeout).trans (keeps_timers _)
  · exact keeps_timers n

theorem keeps_freeRegisters : Keeps s (freeRegisters s) := ⟨fun h => h.of rfl, rfl, rfl⟩

theorem keeps_applyClearb : Keeps s (applyClearb s) := by
  unfold applyClearb
  dsimp only
  split
  · refine Keeps.thenReset ⟨fun h => ?_, rfl, rfl⟩
    exact
      { h with
        edges := Nat.zero_le 2
        missed := Nat.zero_le 3
        dreqFlag := fun _ => Nat.zero_le 1
        waitFlag := fun _ => Nat.zero_le 1 }
  · exact keeps_freeRegisters

/-- A free choice is the default or of the list. -/
theorem freeChoice_all {α : Type} {P : α → Prop} (n : Nat) (d : α) (xs : List α) (hd : P d) (hx : ∀ x ∈ xs, P x) :
    P (freeChoice n d xs) := by
  unfold freeChoice
  by_cases hk : (Config.freeByte n).toNat % (xs.length + 1) < xs.length
  · rw [List.getD_eq_getElem?_getD, List.getElem?_eq_getElem hk]
    exact hx _ (List.getElem_mem hk)
  · rw [List.getD_eq_getElem?_getD, List.getElem?_eq_none (Nat.le_of_not_lt hk)]
    exact hd

/-- U20: whatever the latches of the core become, what is buffered and what is held come from the lists of `freeCore`,
which the invariant admits. -/
theorem keeps_freeCore (hv : s.cfg.version = .cpu) : Keeps s (freeCore s) where
  sound h :=
    { h with
      held :=
        freeChoice_all (P := fun o => ∀ i, o = some i → Safety.repeats i = true) _ _ _ nofun
          (by simp [Safety.repeats])
      buffered :=
        freeChoice_all (P := fun o => ∀ la b, o = some (la, b) → isPrefixByte b = true) _ _ _ nofun
          (by simp [isPrefixByte])
      oneServed := atMostOneBit_zero
      servedInGrant := fun _ => rfl
      latched := fun hm => absurd (hv.symm.trans hm) (by decide) }
  cfg := rfl
  late := rfl

theorem keeps_applyFault (la : Word) : Keeps s (applyFault la s) := by
  unfold applyFault
  split
  · rename_i hv
    exact (keeps_freeCore hv).trans ⟨fun h => h.of rfl, rfl, rfl⟩
  · exact Keeps.thenReset ⟨fun h => h.of rfl, rfl, rfl⟩

/-- R215: a DMA master drives 28 address lines, or 16 in the CPU version. -/
theorem keeps_applyDmaWrite (pa : BitVec 28) (v : Byte) : Keeps s (applyDmaWrite pa v s) := by
  unfold applyDmaWrite
  split
  · refine ⟨fun h => { h with memory := Memory.wf_set _ _ _ ?_ h.memory }, rfl, rfl⟩
    split
    · exact pa.isLt
    · exact Nat.lt_trans (pa.setWidth 16).isLt (by decide)
  · exact ⟨id, rfl, rfl⟩

theorem keeps_applyInput (inp : Input) : Keeps s (applyInput inp s) := by
  cases inp with
  | pins p => exact keeps_applyPins p
  | clocks n => exact keeps_applyClocks n
  | resetb =>
    unfold applyInput
    dsimp only
    split
    · exact ⟨id, rfl, rfl⟩
    · exact ⟨sound_userReset, rfl, rfl⟩
  | clearb => exact keeps_applyClearb
  | faultDetect la => exact keeps_applyFault la
  | dmaWrite pa v => exact keeps_applyDmaWrite pa v
  | ioData vs => exact ⟨fun h => h.of rfl, rfl, rfl⟩

/-! ## An action with something inside it -/

/-- What an action keeps, in whatever way the platform acts inside it: the invariant and the parameters. -/
def KeepsInv (s : State) (o : Result) : Prop := ∀ t, o = .next t → Inv t ∧ t.cfg = s.cfg

theorem keepsInv_next (h : Inv t ∧ t.cfg = s.cfg) : KeepsInv s (.next t) := by
  rintro u ⟨⟩
  exact h

theorem keepsInv_fault (r : Fault) : KeepsInv s (.fault r) := fun _ e => by cases e
theorem keepsInv_refused (r : Refusal) : KeepsInv s (.refused r) := fun _ e => by cases e

theorem inv_sound (h : Inv s) : Sound s := ((inv_iff_sound s).1 h).1
theorem inv_late (h : Inv s) : s.late = [] := ((inv_iff_sound s).1 h).2

theorem Keeps.inv (k : Keeps s t) (h : Inv s) : Inv t ∧ t.cfg = s.cfg :=
  ⟨(inv_iff_sound t).2 ⟨k.sound (inv_sound h), k.late.trans (inv_late h)⟩, k.cfg⟩

/-- An action of the machine itself keeps what an input keeps. -/
theorem keeps_machineStep (e : machineStep s = .next t) : Keeps s t := by
  have around := machineStep_surroundings s t e
  simp only [surroundings, Prod.mk.injEq] at around
  obtain ⟨cfg, -, -, late, -⟩ := around
  exact ⟨machineStep_sound e, cfg, late⟩

theorem machineStep_pins (e : machineStep s = .next t) : t.pins = s.pins := by
  have around := machineStep_surroundings s t e
  simp only [surroundings, Prod.mk.injEq] at around
  obtain ⟨-, -, pins, -, -⟩ := around
  exact pins

theorem machineStep_keepsInv (h : Inv s) : KeepsInv s (machineStep s) :=
  fun _ e => (keeps_machineStep e).inv h

/-- R951: a wait that times out is counted, or leaves a flag of 1. -/
theorem keeps_waitTimeout : Keeps s (waitTimeout s) where
  sound h :=
    { h with
      waitFlag := fun hw => by
        show (bumpStatus s.cfg.waitAcc s.sys.waitStat).toNat ≤ 1
        rw [show s.cfg.waitAcc = false from hw]
        exact bumpStatus_flag _ }
  cfg := rfl
  late := rfl

theorem keeps_recordWaits (held : List WaitKind) (q : WaitKind → Pins) (a b : State) :
    Keeps s (recordWaits held q a b s) := by
  unfold recordWaits
  generalize held.filter _ = timedOut
  induction timedOut generalizing s with
  | nil => exact ⟨id, rfl, rfl⟩
  | cons k ks ih => exact keeps_waitTimeout.trans ih

/-- Reads left late, and `wr_inh` as the writes see it, are none of what `Sound` looks at. -/
theorem sound_lateInhibited (w : List AddrRange) (bytes : List (BitVec 28 × Byte)) (h : Sound s) :
    Sound (withInhibit w { s with late := bytes }) := h.of rfl

theorem heldStep_keepsInv (held : List WaitKind) (q : WaitKind → Pins) (w : List AddrRange) (h : Inv s) :
    KeepsInv s (heldStep held q w s) := by
  unfold heldStep
  split
  · rename_i t e
    split
    · exact keepsInv_fault _
    · have sound := machineStep_sound e (sound_lateInhibited w _ (inv_sound h))
      have enabled : s.pins.intReqEn = t.pins.intReqEn := by rw [machineStep_pins e]; rfl
      have ended : Sound { t with late := [], pins := s.pins } := sound.of (by simp only [watched, enabled])
      obtain ⟨inv, cfg⟩ :=
        (keeps_recordWaits held q s t).inv ((inv_iff_sound { t with late := [], pins := s.pins }).2 ⟨ended, rfl⟩)
      exact keepsInv_next ⟨inv, cfg.trans (keeps_machineStep e).cfg⟩
  · exact keepsInv_fault _
  · exact keepsInv_refused _

theorem thenInput_keepsInv (inp : Input) {o : Result} (h : KeepsInv s o) : KeepsInv s (thenInput inp o) := by
  unfold thenInput
  split
  · rename_i t
    obtain ⟨inv, cfg⟩ := h t rfl
    obtain ⟨inv', cfg'⟩ := (keeps_applyInput inp).inv inv
    exact keepsInv_next ⟨inv', cfg'.trans cfg⟩
  · exact keepsInv_fault _
  · exact keepsInv_refused _

theorem steadyStep_keepsInv (held : List WaitKind) (h : Inv s) : KeepsInv s (steadyStep held s) :=
  heldStep_keepsInv _ _ _ h

theorem pinsStep_keepsInv (held : List WaitKind) (n : Nat) (p : Pins) (h : Inv s) :
    KeepsInv s (pinsStep held n p s) := by
  unfold pinsStep
  dsimp only
  split
  · exact thenInput_keepsInv _ (heldStep_keepsInv _ _ _ h)
  · exact keepsInv_fault _
  · exact keepsInv_refused _

/-! ### An action cut short (R1000) -/

/-- An action cut short comes from the whole action, with registers free. -/
theorem whole_of_execCut (p : Plan) (e : p.result execCut = .next t) :
    ∃ u, p.result exec = .next u ∧ RegistersOnly u t := by
  cases p with
  | become u => exact ⟨u, rfl, by injection e with e; subst e; rfl⟩
  | run i u =>
    simp only [Plan.result, execCut] at e ⊢
    split at e
    · rename_i whole hw
      injection e with e
      subst e
      exact ⟨whole, hw, spoil_registers _ _⟩
    · cases e
    · cases e

theorem keeps_registersOnly (h : RegistersOnly s t) : Keeps s t := by
  rw [h]
  exact ⟨fun hs => hs.of rfl, rfl, rfl⟩

/-- The time-out statuses of an action cut short are those of the action or those before it. -/
theorem cutSys_timeouts (n : Nat) (las : List Word) (s t : State) :
    ((cutSys n las s t).dreqStat = t.sys.dreqStat ∧ (cutSys n las s t).waitStat = t.sys.waitStat) ∨
      ((cutSys n las s t).dreqStat = s.sys.dreqStat ∧ (cutSys n las s t).waitStat = s.sys.waitStat) := by
  obtain whole | ⟨-, before⟩ | ⟨-, -, uncleared⟩ := cutSys_cases n las s t
  · exact .inl (by rw [whole]; exact ⟨rfl, rfl⟩)
  · exact .inr (by rw [before]; exact ⟨rfl, rfl⟩)
  · exact .inr (by rw [uncleared]; exact ⟨rfl, rfl⟩)

/-- Memory, the status latches and the Arm Timer of an action cut short are each those before it or those after it. -/
theorem sound_cutShort (n : Nat) (las : List Word) (hs : Sound s) (ht : Sound t) (cfg : t.cfg = s.cfg)
    (enabled : t.pins.intReqEn = s.pins.intReqEn) : Sound (cutShort n las s t) where
  memory := copyBytes_wf _ _ _ hs.memory fun a ha => physical_lt s _ a ha
  held := ht.held
  buffered := ht.buffered
  oneServed := ht.oneServed
  servedInGrant := ht.servedInGrant
  armTimer := hs.armTimer
  latched := fun hv => by
    show t.irq &&& ~~~s.pins.intReqEn = 0
    rw [← enabled]
    exact ht.latched hv
  edges := ht.edges
  missed := ht.missed
  dreqFlag := fun hd => by
    show (cutSys n las s t).dreqStat.toNat ≤ 1
    obtain ⟨e, -⟩ | ⟨e, -⟩ := cutSys_timeouts n las s t <;> rw [e]
    · exact ht.dreqFlag hd
    · exact hs.dreqFlag (cfg ▸ hd)
  waitFlag := fun hw => by
    show (cutSys n las s t).waitStat.toNat ≤ 1
    obtain ⟨-, e⟩ | ⟨-, e⟩ := cutSys_timeouts n las s t <;> rw [e]
    · exact ht.waitFlag hw
    · exact hs.waitFlag (cfg ▸ hw)

theorem cutStep_keepsInv (held : List WaitKind) (n : Nat) (inp : Input) (h : Inv s) :
    KeepsInv s (cutStep held n inp s) := by
  unfold cutStep
  dsimp only
  split
  · split
    · rename_i t e
      obtain ⟨u, whole, registers⟩ := whole_of_execCut _ e
      have action := (keeps_machineStep whole).trans (keeps_registersOnly registers)
      have enabled : t.pins.intReqEn = s.pins.intReqEn := by
        rw [show t.pins = u.pins by rw [registers], machineStep_pins whole]
        rfl
      have cut (las : List Word) : Inv (cutShort n las s t) :=
        (inv_iff_sound _).2 ⟨sound_cutShort n las (inv_sound h)
          (action.sound (sound_lateInhibited _ _ (inv_sound h))) action.cfg enabled, rfl⟩
      obtain ⟨inv, cfg⟩ := ((keeps_recordWaits _ _ _ _).trans (keeps_applyInput inp)).inv (cut _)
      exact keepsInv_next ⟨inv, cfg.trans action.cfg⟩
    · exact keepsInv_fault _
    · exact keepsInv_refused _
  · exact keepsInv_fault _
  · exact keepsInv_refused _

/-! ### `clearb` inside an action of the CPU version (log 39) -/

theorem inv_clearedDuring (n : Nat) (las las' : List Word) (us : List Spot) (cleared : State) (hs : Inv s)
    {v : State} (ht : Inv t ∧ t.cfg = s.cfg) (hv : Inv v ∧ v.cfg = s.cfg) :
    Inv (clearedDuring n las las' us cleared s t v) ∧ (clearedDuring n las las' us cleared s t v).cfg = s.cfg := by
  unfold clearedDuring
  dsimp only
  generalize (decide (0 < min n (transactions las s t)) && _) = decided
  generalize writesBefore (min n (transactions las s t)) s t = k
  obtain ⟨inv, cfg⟩ : Inv (if decided then t else v) ∧ (if decided then t else v).cfg = s.cfg := by
    split
    · exact ht
    · exact hv
  generalize (if decided then t else v) = w at inv cfg ⊢
  have written (rest : List Word) :
      (copyBytes w.mem (physical s rest) (copyBytes t.mem (physical s (las.take k)) s.mem)).wf = true :=
    copyBytes_wf _ _ _ (copyBytes_wf _ _ _ (inv_sound hs).memory fun a ha => physical_lt s _ a ha)
      fun a ha => physical_lt s _ a ha
  have inTime := inv_late inv
  rw [← cfg]
  exact (keeps_registersOnly (mixSpots_registers us w _)).inv
    ((inv_iff_sound _).2 ⟨{ inv_sound inv with memory := written _ }, inTime⟩)

theorem keeps_free (n : Nat) : Keeps s { s with free := n } := ⟨fun h => h.of rfl, rfl, rfl⟩

/-- The state with each register cleared or not yet. -/
theorem keeps_partlyCleared (cleared : State) (m k : Nat) :
    Keeps s { mixSpots clearedSpots cleared { s with free := m } with free := k } :=
  ((keeps_free m).trans (keeps_registersOnly (mixSpots_registers _ _ _))).trans (keeps_free k)

theorem clearStep_keepsInv (held : List WaitKind) (n : Nat) (h : Inv s) : KeepsInv s (clearStep held n s) := by
  unfold clearStep
  dsimp only
  split
  · rename_i t u et eu
    split
    · exact keepsInv_fault _
    · exact keepsInv_next (inv_clearedDuring _ _ _ _ _ h ((keeps_machineStep et).inv h)
        (((keeps_partlyCleared _ _ _).trans (keeps_machineStep eu)).inv h))
  · exact keepsInv_fault _
  · exact keepsInv_fault _
  · exact keepsInv_refused _
  · exact keepsInv_refused _

/-! ### One step -/

theorem insideStep_keepsInv (held : List WaitKind) (n : Nat) (inp : Input) (h : Inv s) :
    KeepsInv s (insideStep held n inp s) := by
  unfold insideStep
  split
  · exact cutStep_keepsInv held n inp h
  · cases inp with
    | pins p => exact pinsStep_keepsInv held n p h
    | clearb => exact clearStep_keepsInv held n h
    | clocks | resetb | faultDetect | dmaWrite | ioData => exact thenInput_keepsInv _ (steadyStep_keepsInv held h)

theorem arrive_keepsInv (a : Arrival) (h : Inv s) : KeepsInv s (arrive a s) := by
  unfold arrive
  split
  · exact keepsInv_next ((keeps_applyInput _).inv h)
  · exact steadyStep_keepsInv _ h
  · exact insideStep_keepsInv _ _ _ h

/-- What the platform will do later is none of what the invariant looks at. -/
theorem keeps_sched (rest : List (Nat × Arrival)) : Keeps s { s with sched := rest } :=
  ⟨fun h => h.of rfl, rfl, rfl⟩

theorem step_keepsInv (h : Inv s) : KeepsInv s (step s) := by
  have later (rest : List (Nat × Arrival)) : Inv { s with sched := rest } := ((keeps_sched rest).inv h).1
  unfold step scheduledStep
  split
  · exact machineStep_keepsInv h
  · exact arrive_keepsInv _ (later _)
  · exact machineStep_keepsInv (later _)

end

/-- Settles O59: the cases of a step. An action keeps `Sound` whatever reads are late and whatever `wr_inh` its writes
see, an input keeps it too, and no read is left late at the end. -/
theorem stepKeepsInvariant : Obligations.StepKeepsInvariant := fun _ t h e => step_keepsInv h t e

end Sys2Proof.Proofs
end

section
/-! PROOFS. The fields of an opcode byte and the operand codes in them, for O1 to O3. -/

namespace Sys2Proof.Proofs.Encoding

open Sys2Proof Sys2Proof.Machine

-- One theorem at a time, as in the tests.
set_option Elab.async false

/-! ## An opcode byte put together

The rules of the pages write an opcode byte as `xx yyy zzz` (R311). Below, `x` is its upper five bits `xx yyy`. -/

section Fields

variable (x : BitVec 5) (y z : BitVec 3) (p c : BitVec 2) (b : BitVec 1)

@[simp] theorem top_append : (x ++ z).extractLsb' 6 2 = x.extractLsb' 3 2 :=
  BitVec.extractLsb'_append_eq_of_le (by decide)

@[simp] theorem mid_append : (x ++ z).extractLsb' 3 3 = x.extractLsb' 0 3 :=
  BitVec.extractLsb'_append_eq_of_le (by decide)

@[simp] theorem low_append : (x ++ z).extractLsb' 0 3 = z := BitVec.extractLsb'_append_eq_right

@[simp] theorem upperTop_append : (p ++ y).extractLsb' 3 2 = p := BitVec.extractLsb'_append_eq_left

@[simp] theorem upperMid_append : (p ++ y).extractLsb' 0 3 = y := BitVec.extractLsb'_append_eq_right

@[simp] theorem upperOdd_append : (p ++ y)[0] = y[0] :=
  (BitVec.getElem_append (by decide)).trans (dif_pos (by decide))

@[simp] theorem pair_append : (c ++ b).extractLsb' 1 2 = c := BitVec.extractLsb'_append_eq_left

@[simp] theorem odd_append : (c ++ b)[0] = b[0] :=
  (BitVec.getElem_append (by decide)).trans (dif_pos (by decide))

/-- The encodings write a word-register field and the four bits after it (R303); the pages read `yyy zzz`. -/
theorem pairByte_eq (k : BitVec 4) : p ++ c ++ k = p ++ (c ++ k.extractLsb' 3 1) ++ k.extractLsb' 0 3 := by
  have hk := BitVec.extractLsb'_append_extractLsb' (w := 1) (len := 3) (x := k)
  conv => lhs; rw [← hk, BitVec.append_assoc', BitVec.append_assoc (x₁ := p)]
  rfl

end Fields

theorem byte_eq_fields (b : Byte) : b.extractLsb' 6 2 ++ b.extractLsb' 3 3 ++ b.extractLsb' 0 3 = b := by
  rw [BitVec.extractLsb'_append_extractLsb'_eq_extractLsb' (start₁ := 3) (len₁ := 3) rfl,
    BitVec.extractLsb'_append_extractLsb'_eq_extractLsb' (start₁ := 0) (len₁ := 3) rfl, BitVec.extractLsb'_eq_self]

theorem byte_eq_pairFields (b : Byte) : b.extractLsb' 6 2 ++ b.extractLsb' 4 2 ++ b.extractLsb' 0 4 = b := by
  rw [BitVec.extractLsb'_append_extractLsb'_eq_extractLsb' (start₁ := 4) (len₁ := 2) rfl,
    BitVec.extractLsb'_append_extractLsb'_eq_extractLsb' (start₁ := 0) (len₁ := 4) rfl, BitVec.extractLsb'_eq_self]

theorem eq_ofNat_of_toNat {b : Byte} {k : Nat} (h : b.toNat = k) : b = BitVec.ofNat 8 k := by
  rw [← h, BitVec.ofNat_toNat, BitVec.setWidth_eq]

/-! ## The first bytes CB, DD, ED and FD (R310) -/

theorem isPrefixByte_iff {b : Byte} : isPrefixByte b = true ↔ b = 0xCB ∨ b = 0xDD ∨ b = 0xED ∨ b = 0xFD := by
  simp [isPrefixByte, or_assoc]

/-- CB is `11 001 011`; DD, ED and FD are `11 yyy 101` with an odd `yyy` other than 1. -/
theorem isPrefixByte_append : ∀ (x : BitVec 5) (z : BitVec 3),
    isPrefixByte (x ++ z) =
      (x.extractLsb' 3 2 == 3#2 &&
        (z == 3#3 && x.extractLsb' 0 3 == 1#3 || z == 5#3 && x[0] && x.extractLsb' 0 3 != 1#3)) := by
  decide +kernel

/-! ## Reading an operand code back (R302 to R304, R317) -/

@[simp] theorem r8_ofCode_code (r : R8) : R8.ofCode r.code = some r := by cases r <;> rfl

@[simp] theorem r8_ofCode_mem : R8.ofCode 6#3 = none := rfl

@[simp] theorem cond_ofCode_code (cc : Cond) : Cond.ofCode cc.code = cc := by cases cc <;> rfl

theorem ofDd_code {p : Pair} (h : p.inDd = true) : Pair.ofDd p.code = p := by cases p <;> trivial

@[simp] theorem regOrMem_code (r : R8) (f : R8 → Instr) (m : Instr) : regOrMem r.code f m = f r := by
  rw [regOrMem, r8_ofCode_code]

@[simp] theorem regOrMem_mem (f : R8 → Instr) (m : Instr) : regOrMem 6#3 f m = m := rfl

@[simp] theorem regOnly_code (r : R8) (f : R8 → Instr) : regOnly r.code f = .instr (f r) := by
  rw [regOnly, r8_ofCode_code]

@[simp] theorem regOnly_mem (f : R8 → Instr) : regOnly 6#3 f = .illegal2 := rfl

/-! ## The cases of a field: its values, or the operands it encodes -/

theorem bits2_cases {P : BitVec 2 → Prop} (b00 : P 0#2) (b01 : P 1#2) (b10 : P 2#2) (b11 : P 3#2) :
    ∀ v : BitVec 2, P v
  | ⟨0, _⟩ => b00
  | ⟨1, _⟩ => b01
  | ⟨2, _⟩ => b10
  | ⟨3, _⟩ => b11

theorem bits3_cases {P : BitVec 3 → Prop} (b000 : P 0#3) (b001 : P 1#3) (b010 : P 2#3) (b011 : P 3#3)
    (b100 : P 4#3) (b101 : P 5#3) (b110 : P 6#3) (b111 : P 7#3) : ∀ v : BitVec 3, P v
  | ⟨0, _⟩ => b000
  | ⟨1, _⟩ => b001
  | ⟨2, _⟩ => b010
  | ⟨3, _⟩ => b011
  | ⟨4, _⟩ => b100
  | ⟨5, _⟩ => b101
  | ⟨6, _⟩ => b110
  | ⟨7, _⟩ => b111

theorem regField_cases {P : BitVec 3 → Prop} (reg : ∀ r : R8, P r.code) (mem : P 6#3) (v : BitVec 3) : P v :=
  bits3_cases (reg .b) (reg .c) (reg .d) (reg .e) (reg .h) (reg .l) mem (reg .a) v

theorem condField_cases {P : BitVec 3 → Prop} (cond : ∀ cc : Cond, P cc.code) (v : BitVec 3) : P v :=
  bits3_cases (cond .nz) (cond .z) (cond .nc) (cond .c) (cond .po) (cond .pe) (cond .p) (cond .m) v

/-- A `yyy` that holds a word register of the dd table and, as its lowest bit, half of the operation. -/
theorem pairField_cases {P : BitVec 3 → Prop} (even : ∀ p : Pair, p.inDd = true → P (p.code ++ 0#1))
    (odd : ∀ p : Pair, p.inDd = true → P (p.code ++ 1#1)) (v : BitVec 3) : P v :=
  bits3_cases (even .bc rfl) (odd .bc rfl) (even .de rfl) (odd .de rfl) (even .hl rfl) (odd .hl rfl) (even .sp rfl)
    (odd .sp rfl) v

/-! ## Which page a first byte selects (R310, R311) -/

theorem decode_main {b : Byte} (h : isPrefixByte b = false) (b1 b2 b3 : Byte) :
    decode b b1 b2 b3 = .instr (decodeMain b b1 b2) := by
  unfold decode
  split
  case h_5 => rfl
  all_goals
    rename_i hb
    cases eq_ofNat_of_toNat hb
    exact absurd h (by decide)

theorem decode_index (y : Idx) (b1 b2 b3 : Byte) :
    decode (0b11#2 ++ y.code ++ 0b11101#5) b1 b2 b3 = decodeXy y b1 b2 b3 := by
  cases y <;> rfl

/-! ## The register loads (R311, R314) -/

theorem decode01_regs (r q : R8) : decode01 r.code q.code = .ldRR r q := by simp [decode01]

theorem decode01_fromMem (r : R8) : decode01 r.code 6#3 = .ldRM r := by simp [decode01]

theorem decode01_toMem (r : R8) : decode01 6#3 r.code = .ldMR r := by simp [decode01]

theorem decode01_halt : decode01 6#3 6#3 = .halt := rfl

theorem decodeXy_ldRX (y : Idx) (r : R8) (b2 b3 : Byte) :
    decodeXy y (0b01#2 ++ r.code ++ 0b110#3) b2 b3 = .instr (.ldRX r y b2) := by
  cases r <;> rfl

theorem decodeXy_ldXR (y : Idx) (r : R8) (b2 b3 : Byte) :
    decodeXy y (0b01110#5 ++ r.code) b2 b3 = .instr (.ldXR y b2 r) := by
  cases r <;> rfl

end Sys2Proof.Proofs.Encoding
end

section
/-! PROOFS. Decoding the encoding of a well-formed instruction gives it back (O1). -/

namespace Sys2Proof.Proofs.Encoding

open Sys2Proof Sys2Proof.Machine

-- One theorem at a time, as above.
set_option Elab.async false

/-! ## Each page, read from a list of bytes -/

theorem decodeBytes_main {b : Byte} (h : isPrefixByte b = false) (bs : List Byte) :
    decodeBytes (b :: bs) = .instr (decodeMain b (bs.getD 0 0#8) (bs.getD 1 0#8)) := decode_main h ..

theorem decodeBytes_cb (b : Byte) (bs : List Byte) : decodeBytes (0xCB#8 :: b :: bs) = decodeCb b := rfl

theorem decodeBytes_ed (b : Byte) (bs : List Byte) :
    decodeBytes (0xED#8 :: b :: bs) = decodeEd b (bs.getD 0 0#8) (bs.getD 1 0#8) := rfl

theorem decodeBytes_index (y : Idx) (b : Byte) (bs : List Byte) :
    decodeBytes ((0b11#2 ++ y.code ++ 0b11101#5) :: b :: bs) = decodeXy y b (bs.getD 0 0#8) (bs.getD 1 0#8) :=
  decode_index ..

theorem decodeBytes_indexCb (y : Idx) (d op : Byte) (bs : List Byte) :
    decodeBytes ((0b11#2 ++ y.code ++ 0b11101#5) :: 0xCB#8 :: d :: op :: bs) = decodeXyCb y d op :=
  decodeBytes_index ..

/-! ## Every instruction, by its page and the operands in its opcode byte -/

/-- Settles O1: the first byte selects the page, and there the fields of the opcode byte read back the operands. -/
theorem decodeOfEncode : Obligations.DecodeOfEncode := by
  intro i rest wf
  cases i with
  -- R311: one fixed opcode byte
  | addAN | addAM | adcAN | adcAM | subAN | subAM | sbcAN | sbcAM | andAN | andAM | xorAN | xorAM | orAN | orAM
  | cpAN | cpAM | incM | decM | cpl | daa | ccf | scf | ldMN | ldABc | ldADe | ldAMn | ldBcA | ldDeA | ldMnA
  | ldHlFromMn | ldMnHl | ldSpHl | exDeHl | exAfAf | exx | exSpHl | rlca | rla | rrca | rra | jpMn | jpHl | jrE
  | djnz | callMn | ret | inAN | outNA | nop | halt | di | ei =>
    exact (decodeBytes_main rfl _).trans (by simp [decodeMain, decode00, decode01_halt, decode10, decode11])
  -- R311: a register, a condition or a restart number in the opcode byte
  | addAR | adcAR | subAR | sbcAR | andAR | xorAR | orAR | cpAR | incR | decR | ldRR | ldRN | ldRM | ldMR | jpCcMn
  | callCcMn | retCc | rst =>
    exact (decodeBytes_main (by simp [isPrefixByte_append]) _).trans
      (by simp [decodeMain, decode00, decode01_regs, decode01_fromMem, decode01_toMem, decode10, decode11])
  -- R311: a word register of the dd table
  | addHlSs | incSs | decSs | ldDdMn =>
    exact (decodeBytes_main (by simp [pairByte_eq, isPrefixByte_append]) _).trans
      (by simp [pairByte_eq, decodeMain, decode00, ofDd_code wf])
  -- R311: a word register of the tt table
  | pushTt p | popTt p =>
    cases p
    case bc | de | hl | af => exact (decodeBytes_main rfl _).trans rfl
    all_goals cases wf
  -- R311: one of the four conditions of JR
  | jrCcE cc e =>
    cases cc
    case nz | z | nc | c => exact (decodeBytes_main rfl _).trans rfl
    all_goals cases wf
  -- R312
  | rlcR | rlcM | rrcR | rrcM | rlR | rlM | rrR | rrM | slaR | slaM | sraR | sraM | srlR | srlM | bitR | bitM | resR
  | resM | setR | setM => exact (decodeBytes_cb ..).trans (by simp [decodeCb])
  -- R313: `00 yyy zzz` and `01 yyy zzz`
  | neg | tstR | tstN | tstM | ldAI | ldAR | ldIA | ldRA | rld | rrd | reti | retn | inRC | in0RN | outCR | out0NR
  | tstioN | slp | im0 | im1 | im2 | swap | wdarm | wdres =>
    exact (decodeBytes_ed ..).trans (by simp [decodeEd, decodeEd0, decodeEd1])
  | mltSs | adcHlSs | sbcHlSs | ldDdFromMn | ldMnSs =>
    exact (decodeBytes_ed ..).trans (by simp [pairByte_eq, decodeEd, decodeEd1, ofDd_code wf])
  -- R313: the block instructions
  | ldi | ldir | ldd | lddr | cpi | cpir | cpd | cpdr | ini | inir | ind | indr | outi | otir | outd | otdr | otim
  | otimr | otdm | otdmr | ldmMmu | ldmMmuh | ldmsMmu | ldmFromMmu | ldmFromMmuh | ldmFromSys =>
    exact (decodeBytes_ed ..).trans rfl
  -- R314
  | addAX | adcAX | subAX | sbcAX | andAX | xorAX | orAX | cpAX | incX | decX | incXy | decXy | ldXN | ldXyMn
  | ldXyFromMn | ldMnXy | ldSpXy | pushXy | popXy | exSpXy | jpXy =>
    exact (decodeBytes_index ..).trans (by simp [decodeXy])
  | ldRX => exact (decodeBytes_index ..).trans (decodeXy_ldRX ..)
  | ldXR => exact (decodeBytes_index ..).trans (decodeXy_ldXR ..)
  | addIxXx p =>
    cases p
    case bc | de | ix | sp => exact (decodeBytes_index .ix ..).trans rfl
    all_goals cases wf
  | addIyYy p =>
    cases p
    case bc | de | iy | sp => exact (decodeBytes_index .iy ..).trans rfl
    all_goals cases wf
  -- R315
  | rlcX | rrcX | rlX | rrX | slaX | sraX | srlX | bitX | resX | setX =>
    exact (decodeBytes_indexCb ..).trans (by simp [decodeXyCb])

end Sys2Proof.Proofs.Encoding
end

section
/-! PROOFS. What the decoder accepts begins with its encoding (O2), and which bytes are illegal (O3). -/

namespace Sys2Proof.Proofs.Encoding

open Sys2Proof Sys2Proof.Machine

-- One theorem at a time, as above.
set_option Elab.async false

/-! ## What it is for a page to answer rightly -/

/-- The instruction is well formed and its encoding begins the bytes. -/
def Begins (i : Instr) (bs : List Byte) : Prop := i.wellFormed = true ∧ encode i <+: bs

/-- The answer is an instruction that begins the bytes, or the trap of the page. -/
def Faithful (bs : List Byte) (trap : Decoded) : Decoded → Prop
  | .instr i => Begins i bs
  | d => d = trap

@[simp] theorem faithful_instr {bs : List Byte} {trap : Decoded} {i : Instr} :
    Faithful bs trap (.instr i) ↔ Begins i bs := Iff.rfl

@[simp] theorem faithful_illegal2 {bs : List Byte} : Faithful bs .illegal2 .illegal2 := rfl

@[simp] theorem faithful_illegal3 {bs : List Byte} : Faithful bs .illegal3 .illegal3 := rfl

/-! ## The first-byte page (R311) -/

theorem decode00_begins (y z : BitVec 3) (b1 b2 b3 : Byte) :
    Begins (decode00 y z b1 b2) [0#2 ++ y ++ z, b1, b2, b3] := by
  cases z using bits3_cases with
  | b001 | b011 =>
    cases y using pairField_cases <;> simp [decode00, Begins, encode, Instr.wellFormed, pairByte_eq, ofDd_code, *]
  | b100 | b101 | b110 => cases y using regField_cases <;> simp [decode00, Begins, encode, Instr.wellFormed]
  | b000 | b010 | b111 =>
    cases y using bits3_cases <;>
      simp [decode00, Begins, encode, Instr.wellFormed, Cond.code, Cond.ofCode, Cond.inJr]

theorem decode01_begins (y z : BitVec 3) (bs : List Byte) : Begins (decode01 y z) ((1#2 ++ y ++ z) :: bs) := by
  cases y using regField_cases <;> cases z using regField_cases <;>
    simp [decode01_regs, decode01_fromMem, decode01_toMem, decode01_halt, Begins, encode, Instr.wellFormed]

theorem decode10_begins (y z : BitVec 3) (bs : List Byte) : Begins (decode10 y z) ((2#2 ++ y ++ z) :: bs) := by
  cases y using bits3_cases <;> cases z using regField_cases <;> simp [decode10, Begins, encode, Instr.wellFormed]

theorem decode11_begins (y z : BitVec 3) (b1 b2 b3 : Byte) (h : isPrefixByte (3#2 ++ y ++ z) = false) :
    Begins (decode11 y z b1 b2) [3#2 ++ y ++ z, b1, b2, b3] := by
  cases z using bits3_cases with
  | b000 | b010 | b100 =>
    cases y using condField_cases
    simp [decode11, Begins, encode, Instr.wellFormed]
  -- the slots of CB, DD, ED and FD are here
  | b001 | b011 | b101 =>
    revert h
    cases y using bits3_cases <;>
      simp [isPrefixByte, decode11, Begins, encode, Instr.wellFormed, Pair.code, Pair.ofTt, Pair.inTt]
  | b110 => cases y using bits3_cases <;> simp [decode11, Begins, encode, Instr.wellFormed]
  | b111 => simp [decode11, Begins, encode, Instr.wellFormed]

theorem decodeMain_begins {b0 : Byte} (h : isPrefixByte b0 = false) (b1 b2 b3 : Byte) :
    Begins (decodeMain b0 b1 b2) [b0, b1, b2, b3] := by
  rw [← byte_eq_fields b0] at h ⊢
  generalize b0.extractLsb' 6 2 = p, b0.extractLsb' 3 3 = y, b0.extractLsb' 0 3 = z at h ⊢
  cases p using bits2_cases with
  | b00 => simpa [decodeMain] using decode00_begins y z b1 b2 b3
  | b01 => simpa [decodeMain] using decode01_begins y z [b1, b2, b3]
  | b10 => simpa [decodeMain] using decode10_begins y z [b1, b2, b3]
  | b11 => simpa [decodeMain] using decode11_begins y z b1 b2 b3 h

/-! ## The CB page (R312) -/

theorem decodeCb_faithful (b1 : Byte) (bs : List Byte) : Faithful (0xCB#8 :: b1 :: bs) .illegal2 (decodeCb b1) := by
  rw [← byte_eq_fields b1]
  generalize b1.extractLsb' 6 2 = p, b1.extractLsb' 3 3 = y, b1.extractLsb' 0 3 = z
  cases z using regField_cases <;> cases p using bits2_cases
  case' reg.b00 | mem.b00 => cases y using bits3_cases
  all_goals simp [decodeCb, Begins, encode, Instr.wellFormed]

/-! ## The ED page (R313) -/

theorem decodeEd0_faithful (y z : BitVec 3) (b2 b3 : Byte) :
    Faithful [0xED#8, 0#2 ++ y ++ z, b2, b3] .illegal2 (decodeEd0 y z b2) := by
  cases z using bits3_cases with
  | b000 | b001 | b100 => cases y using regField_cases <;> simp [decodeEd0, Begins, encode, Instr.wellFormed]
  | b010 | b011 | b101 | b110 | b111 => rfl

theorem decodeEd1_faithful (y z : BitVec 3) (b2 b3 : Byte) :
    Faithful [0xED#8, 1#2 ++ y ++ z, b2, b3] .illegal2 (decodeEd1 y z b2 b3) := by
  cases z using bits3_cases with
  | b000 | b001 => cases y using regField_cases <;> simp [decodeEd1, Begins, encode, Instr.wellFormed]
  | b010 | b011 =>
    cases y using pairField_cases <;> simp [decodeEd1, Begins, encode, Instr.wellFormed, pairByte_eq, ofDd_code, *]
  | b100 | b101 | b110 | b111 =>
    cases y using bits3_cases <;>
      simp [decodeEd1, Begins, encode, Instr.wellFormed, Pair.ofDd, Pair.inDd, Pair.code]

theorem decodeEd2_faithful (b1 b2 b3 : Byte) : Faithful [0xED#8, b1, b2, b3] .illegal2 (decodeEd2 b1) := by
  unfold decodeEd2
  split
  case h_27 => rfl
  all_goals
    rename_i hb
    cases eq_ofNat_of_toNat hb
    simp [Begins, encode, Instr.wellFormed]

theorem decodeEd_faithful (b1 b2 b3 : Byte) : Faithful [0xED#8, b1, b2, b3] .illegal2 (decodeEd b1 b2 b3) := by
  rw [← byte_eq_fields b1]
  generalize b1.extractLsb' 6 2 = p, b1.extractLsb' 3 3 = y, b1.extractLsb' 0 3 = z
  cases p using bits2_cases with
  | b00 => simpa [decodeEd] using decodeEd0_faithful y z b2 b3
  | b01 => simpa [decodeEd] using decodeEd1_faithful y z b2 b3
  | b10 => simpa [decodeEd] using decodeEd2_faithful (2#2 ++ y ++ z) b2 b3
  | b11 => simp [decodeEd]

/-! ## The index pages (R314, R315) -/

theorem decodeXyCb_faithful (y : Idx) (d op : Byte) :
    Faithful [0b11#2 ++ y.code ++ 0b11101#5, 0xCB#8, d, op] .illegal3 (decodeXyCb y d op) := by
  rw [← byte_eq_fields op]
  generalize op.extractLsb' 6 2 = p, op.extractLsb' 3 3 = k, op.extractLsb' 0 3 = z
  by_cases hz : z = 6#3
  · cases hz
    cases p using bits2_cases
    case' b00 => cases k using bits3_cases
    all_goals simp [decodeXyCb, Begins, encode, Instr.wellFormed]
  · simp [decodeXyCb, hz]

/-- R315, R316: the final bytes that are no instruction's. -/
theorem decodeXyCb_eq_illegal3_iff (y : Idx) (d op : Byte) :
    decodeXyCb y d op = .illegal3 ↔ op.extractLsb' 0 3 ≠ 6 ∨ op = 0x36 := by
  rw [← byte_eq_fields op]
  generalize op.extractLsb' 6 2 = p, op.extractLsb' 3 3 = k, op.extractLsb' 0 3 = z
  by_cases hz : z = 6#3
  · cases hz
    cases p using bits2_cases <;> cases k using bits3_cases <;> simp [decodeXyCb]
  · simp [decodeXyCb, hz]

/-- `00 pp 1001` after DD or FD: the additions to an index register. -/
theorem indexAdd_begins (y : Idx) (c : BitVec 2) (bs : List Byte) :
    Begins (match y with | .ix => .addIxXx (Pair.ofXy y c) | .iy => .addIyYy (Pair.ofXy y c))
      ((0b11#2 ++ y.code ++ 0b11101#5) :: (0#2 ++ c ++ 9#4) :: bs) := by
  cases y <;> cases c using bits2_cases <;> exact ⟨rfl, bs, rfl⟩

/-- `01 yyy zzz` after DD or FD: the loads between a register and memory. -/
theorem indexLoad_faithful (y : Idx) (k z : BitVec 3) (b2 b3 : Byte) :
    Faithful [0b11#2 ++ y.code ++ 0b11101#5, 1#2 ++ k ++ z, b2, b3] .illegal2
      (if z = 0b110#3 then regOnly k (fun r => .ldRX r y b2)
      else if k = 0b110#3 then regOnly z (fun r => .ldXR y b2 r)
      else .illegal2) := by
  split
  · rename_i hz
    cases hz
    cases k using regField_cases <;> simp [Begins, encode, Instr.wellFormed]
  · split
    · rename_i hk
      cases hk
      cases z using regField_cases <;> simp [Begins, encode, Instr.wellFormed]
    · rfl

theorem decodeXy_faithful (y : Idx) (b1 b2 b3 : Byte) (h : b1 ≠ 0xCB#8) :
    Faithful [0b11#2 ++ y.code ++ 0b11101#5, b1, b2, b3] .illegal2 (decodeXy y b1 b2 b3) := by
  unfold decodeXy
  dsimp only
  split
  case h_23 =>
    split
    · rename_i top
      split
      · rename_i low
        have hb := byte_eq_pairFields b1
        rw [low, show b1.extractLsb' 6 2 = 0#2 from BitVec.eq_of_toNat_eq top] at hb
        have hf := indexAdd_begins y (b1.extractLsb' 4 2) [b2, b3]
        rwa [hb] at hf
      · rfl
    · rename_i top
      have hb := byte_eq_fields b1
      rw [show b1.extractLsb' 6 2 = 1#2 from BitVec.eq_of_toNat_eq top] at hb
      have hf := indexLoad_faithful y (b1.extractLsb' 3 3) (b1.extractLsb' 0 3) b2 b3
      rwa [hb] at hf
    · rfl
  case h_17 hb => exact absurd (eq_ofNat_of_toNat hb) h
  all_goals
    rename_i hb
    cases eq_ofNat_of_toNat hb
    simp [Begins, encode, Instr.wellFormed]

/-! ## The decoder -/

/-- R316: the trap of an illegal opcode that begins with these two bytes. -/
def trapOf (b0 b1 : Byte) : Decoded := if (b0 = 0xDD ∨ b0 = 0xFD) ∧ b1 = 0xCB then .illegal3 else .illegal2

theorem trapOf_index (y : Idx) (b1 : Byte) :
    trapOf (0b11#2 ++ y.code ++ 0b11101#5) b1 = if b1 = 0xCB#8 then .illegal3 else .illegal2 := by
  cases y <;> simp [trapOf, Idx.code]

theorem decode_index_faithful (y : Idx) (b1 b2 b3 : Byte) :
    Faithful [0b11#2 ++ y.code ++ 0b11101#5, b1, b2, b3] (trapOf (0b11#2 ++ y.code ++ 0b11101#5) b1)
      (decode (0b11#2 ++ y.code ++ 0b11101#5) b1 b2 b3) := by
  rw [trapOf_index, decode_index]
  split
  · rename_i hb
    cases hb
    exact decodeXyCb_faithful y b2 b3
  · rename_i hb
    exact decodeXy_faithful y b1 b2 b3 hb

theorem decode_faithful (b0 b1 b2 b3 : Byte) : Faithful [b0, b1, b2, b3] (trapOf b0 b1) (decode b0 b1 b2 b3) := by
  cases hp : isPrefixByte b0 with
  | false =>
    rw [decode_main hp]
    exact decodeMain_begins hp b1 b2 b3
  | true =>
    obtain rfl | rfl | rfl | rfl := isPrefixByte_iff.1 hp
    · exact decodeCb_faithful b1 [b2, b3]
    · exact decode_index_faithful .ix b1 b2 b3
    · exact decodeEd_faithful b1 b2 b3
    · exact decode_index_faithful .iy b1 b2 b3

/-- Settles O2: each page is faithful to the bytes it reads. -/
theorem encodeOfDecode : Obligations.EncodeOfDecode := by
  intro b0 b1 b2 b3 i h
  have hf := decode_faithful b0 b1 b2 b3
  rwa [h] at hf

/-! ## Illegal opcodes (R316) -/

theorem decode_illegal_iff (b0 b1 b2 b3 : Byte) :
    (decode b0 b1 b2 b3 = .illegal2 ∨ decode b0 b1 b2 b3 = .illegal3) ↔
      ∀ i : Instr, i.wellFormed = true → ¬ encode i <+: [b0, b1, b2, b3] := by
  constructor
  · rintro illegal i wf ⟨rest, hb⟩
    have hd : decodeBytes [b0, b1, b2, b3] = .instr i := hb ▸ decodeOfEncode i rest wf
    obtain h | h := illegal <;> cases h.symm.trans hd
  · intro unencoded
    cases hd : decode b0 b1 b2 b3 with
    | instr i =>
      obtain ⟨wf, hb⟩ := encodeOfDecode b0 b1 b2 b3 i hd
      exact absurd hb (unencoded i wf)
    | illegal2 => exact .inl rfl
    | illegal3 => exact .inr rfl

theorem decode_eq_illegal3_iff (b0 b1 b2 b3 : Byte) :
    decode b0 b1 b2 b3 = .illegal3 ↔
      (b0 = 0xDD ∨ b0 = 0xFD) ∧ b1 = 0xCB ∧ (b3.extractLsb' 0 3 ≠ 6 ∨ b3 = 0x36) := by
  constructor
  · intro h
    have hf := decode_faithful b0 b1 b2 b3
    rw [h] at hf
    by_cases ht : (b0 = 0xDD ∨ b0 = 0xFD) ∧ b1 = 0xCB
    · obtain ⟨rfl | rfl, rfl⟩ := ht
      · exact ⟨.inl rfl, rfl, (decodeXyCb_eq_illegal3_iff .ix b2 b3).1 h⟩
      · exact ⟨.inr rfl, rfl, (decodeXyCb_eq_illegal3_iff .iy b2 b3).1 h⟩
    · rw [trapOf, if_neg ht] at hf
      cases hf
  · rintro ⟨rfl | rfl, rfl, h⟩
    · exact (decodeXyCb_eq_illegal3_iff .ix b2 b3).2 h
    · exact (decodeXyCb_eq_illegal3_iff .iy b2 b3).2 h

theorem isPrefixByte_of_illegal2 {b0 b1 b2 b3 : Byte} (h : decode b0 b1 b2 b3 = .illegal2) :
    isPrefixByte b0 = true := by
  rw [← Bool.not_eq_false]
  intro hp
  cases (decode_main hp b1 b2 b3).symm.trans h

/-- Settles O3: an illegal answer excludes every encoding by O1, any other answer exhibits one by O2; only the page of
R315 answers the trap of the final byte. -/
theorem illegalOpcodesAndTheirTrap : Obligations.IllegalOpcodesAndTheirTrap := fun b0 b1 b2 b3 =>
  ⟨decode_illegal_iff b0 b1 b2 b3, decode_eq_illegal3_iff b0 b1 b2 b3,
    fun h => isPrefixByte_iff.1 (isPrefixByte_of_illegal2 h)⟩

end Sys2Proof.Proofs.Encoding
end

section
/-! PROOFS. What the shared operations do, in the terms the statements use: flags, a list of byte writes, what a store
leaves alone, and a word register written on its own. -/

namespace Sys2Proof.Proofs

open Sys2Proof Sys2Proof.Machine Sys2Proof.Claims

-- One theorem at a time, as above.
set_option Elab.async false

/-! ## Flags (R109, R501) -/

/-- The two bits that R109 leaves open stay where the parameter keeps them. -/
theorem u53Bits_keep {s : State} (h : s.cfg.u53 = .keep) : u53Bits s = (s.reg.f.u5, s.reg.f.u3) := by
  simp only [u53Bits, h]

theorem beq_zero_eq_decide_toNat (v : Byte) : (v == 0#8) = decide (v.toNat = 0) := by
  rw [Bool.eq_iff_iff, beq_iff_eq, decide_eq_true_eq, BitVec.toNat_eq, BitVec.toNat_zero]

/-! ## A list of byte writes, one more at its end (R907, R909) -/

/-- Logical addresses mean in `u` what they mean in `s`, write inhibition included. -/
def SameMap (s u : State) : Prop :=
  (∀ la, translate u la = translate s la) ∧ ∀ la, writeInhibited u la = writeInhibited s la

theorem sameMap_of_eq {s u : State} (hc : u.cfg = s.cfg) (hm : u.mmu = s.mmu) (hp : u.pins = s.pins) : SameMap s u :=
  ⟨translate_congr hc hm, writeInhibited_congr hc hm hp⟩

section

variable {k : WriteKind} {s u : State} {ws : List (Word × Byte)}

theorem sameMap_writeMem (hm : SameMap s u) (la : Word) (v : Byte) : SameMap s (writeMem k la v u) := by
  obtain ⟨ht, hi⟩ := hm
  exact ⟨fun x => by rw [translate_writeMem, ht], fun x => by rw [writeInhibited_writeMem, hi]⟩

/-- The write added last is the first that `Bytes` finds, unless it is inhibited. -/
theorem bytes_snoc (hm : SameMap s u) (h : Bytes s u ws) (la : Word) (v : Byte) :
    Bytes s (writeMem k la v u) (ws ++ [(la, v)]) := by
  obtain ⟨ht, hi⟩ := hm
  intro pa
  have before := h pa
  rw [writeMem_spec, hi, ht]
  cases inhibited : writeInhibited s la with
  | true => simpa [inhibited] using before
  | false =>
    by_cases here : (translate s la).toNat = pa
    · simp [inhibited, here]
    · simpa [inhibited, here, Ne.symm here] using before

/-- The last inhibited write wins the Trap Address (U8): whatever was recorded before it, it records its own. -/
theorem traps_snoc (hm : SameMap s u) (h : Traps k s u ws) (la : Word) (v : Byte) :
    Traps k s (writeMem k la v u) (ws ++ [(la, v)]) := by
  obtain ⟨ht, hi⟩ := hm
  rw [writeMem_spec, hi]
  unfold Traps at h ⊢
  cases inhibited : writeInhibited s la with
  | false => simpa [inhibited] using h
  | true =>
    split at h
    all_goals
      obtain ⟨hsys, hwp, hfatal⟩ := h
      cases k <;> simp [inhibited, inhibitedSys, hsys, hwp, hfatal, ht]

theorem stores_snoc (hm : SameMap s u) (h : Stores k s u ws) (la : Word) (v : Byte) :
    Stores k s (writeMem k la v u) (ws ++ [(la, v)]) :=
  ⟨bytes_snoc hm h.1 la v, traps_snoc hm h.2 la v⟩

end

/-! ## The stores of an instruction, after PC has moved -/

theorem stores_advance (k : WriteKind) (n : Word) (s : State) : Stores k s (advance n s) [] :=
  ⟨fun _ => rfl, rfl, rfl, rfl⟩

theorem sameMap_advance (n : Word) (s : State) : SameMap s (advance n s) := sameMap_of_eq rfl rfl rfl

theorem stores_writeMem (k : WriteKind) (la : Word) (v : Byte) (n : Word) (s : State) :
    Stores k s (writeMem k la v (advance n s)) [(la, v)] :=
  stores_snoc (sameMap_advance n s) (stores_advance k n s) la v

theorem stores_writeMem_writeMem (k : WriteKind) (la la' : Word) (v v' : Byte) (n : Word) (s : State) :
    Stores k s (writeMem k la' v' (writeMem k la v (advance n s))) [(la, v), (la', v')] :=
  stores_snoc (sameMap_writeMem (sameMap_advance n s) la v) (stores_writeMem k la v n s) la' v'

theorem stores_writeMem16 (k : WriteKind) (la w : Word) (n : Word) (s : State) :
    Stores k s (writeMem16 k la w (advance n s)) [(la, low w), (la + 1, high w)] :=
  stores_writeMem_writeMem k la (la + 1) (low w) (high w) n s

theorem pushed_push16 (w n : Word) (s : State) : Pushed s (push16 w (advance n s)) w :=
  ⟨rfl, stores_writeMem_writeMem .stack (s.sp - 1) (s.sp - 2) (high w) (low w) n s⟩

/-! ## What a store leaves alone -/

theorem storeFrame_iff {t u : State} :
    StoreFrame t u ↔ ∃ mem sys wp fatal, t = { u with mem := mem, sys := sys, wpPending := wp, fatal := fatal } := by
  constructor
  · exact fun h => ⟨t.mem, t.sys, t.wpPending, t.fatal, h⟩
  · rintro ⟨mem, sys, wp, fatal, rfl⟩
    rfl

theorem storeFrame_refl (u : State) : StoreFrame u u := rfl

theorem storeFrame_writeMem {t u : State} (h : StoreFrame t u) (k : WriteKind) (la : Word) (v : Byte) :
    StoreFrame (writeMem k la v t) u := by
  obtain ⟨mem, sys, wp, fatal, rfl⟩ := storeFrame_iff.1 h
  rw [writeMem_spec]
  rfl

theorem storeFrame_writeMem16 {t u : State} (h : StoreFrame t u) (k : WriteKind) (la w : Word) :
    StoreFrame (writeMem16 k la w t) u :=
  storeFrame_writeMem (storeFrame_writeMem h k la (loByte w)) k (la + 1#16) (hiByte w)

theorem storeFrame_push16 (w : Word) (s : State) : StoreFrame (push16 w s) { s with sp := s.sp - 2#16 } := by
  have written := storeFrame_writeMem (storeFrame_writeMem (storeFrame_refl s) .stack (s.sp - 1#16) (hiByte w))
    .stack (s.sp - 2#16) (loByte w)
  exact congrArg (fun t : State => { t with sp := s.sp - 2#16 }) written

/-! ## A word register written on its own (R13, R426) -/

theorem flagsToByte_ofByte (b : Byte) : flagsToByte (flagsOfByte b) = b := by
  revert b; decide

theorem getPair_setPair (p : Pair) (w : Word) (s : State) : getPair p (setPair p w s) = w := by
  cases p with
  | bc | de | hl => exact mk16_hi_lo w
  | sp | ix | iy => rfl
  | af =>
    show mk16 (hiByte w) (flagsToByte (flagsOfByte (loByte w))) = w
    rw [flagsToByte_ofByte, mk16_hi_lo]

theorem getR_setPair {p : Pair} {q : R8} (h : q ∉ halves p) (w : Word) (s : State) :
    getR q (setPair p w s) = getR q s := by
  cases p <;> cases q <;> simp [halves] at h <;> rfl

theorem setPair_ix {p : Pair} (h : p ≠ .ix) (w : Word) (s : State) : (setPair p w s).ix = s.ix := by
  cases p with
  | ix => exact absurd rfl h
  | bc | de | hl | sp | af | iy => rfl

theorem setPair_iy {p : Pair} (h : p ≠ .iy) (w : Word) (s : State) : (setPair p w s).iy = s.iy := by
  cases p with
  | iy => exact absurd rfl h
  | bc | de | hl | sp | af | ix => rfl

theorem setPair_sp {p : Pair} (h : p ≠ .sp) (w : Word) (s : State) : (setPair p w s).sp = s.sp := by
  cases p with
  | sp => exact absurd rfl h
  | bc | de | hl | af | ix | iy => rfl

theorem setPair_flags {p : Pair} (h : p ≠ .af) (w : Word) (s : State) : (setPair p w s).reg.f = s.reg.f := by
  cases p with
  | af => exact absurd rfl h
  | bc | de | hl | sp | ix | iy => rfl

theorem onlyPair_setPair (p : Pair) (w : Word) (s : State) : OnlyPair p s (setPair p w s) :=
  ⟨fun _ h => getR_setPair h w s, fun h => setPair_ix h w s, fun h => setPair_iy h w s, fun h => setPair_sp h w s⟩

/-- The state before may be replaced by one with the same registers. -/
theorem onlyPair_of_eq {p : Pair} {s u t : State} (h : OnlyPair p u t) (hr : u.reg = s.reg) (hx : u.ix = s.ix)
    (hy : u.iy = s.iy) (hsp : u.sp = s.sp) : OnlyPair p s t := by
  obtain ⟨bytes, ix, iy, sp⟩ := h
  refine ⟨fun q hq => (bytes q hq).trans ?_, fun hp => (ix hp).trans hx, fun hp => (iy hp).trans hy,
    fun hp => (sp hp).trans hsp⟩
  unfold getR
  rw [hr]

theorem stores_setPair {k : WriteKind} {s t : State} {ws : List (Word × Byte)} (h : Stores k s t ws) (p : Pair)
    (w : Word) : Stores k s (setPair p w t) ws := by
  simpa [Stores, Bytes, Traps] using h

theorem setIdx_eq_setPair (y : Idx) (w : Word) (s : State) : setIdx y w s = setPair (idxPair y) w s := by
  cases y <;> rfl

theorem getPair_idxPair (y : Idx) (s : State) : getPair (idxPair y) s = getIdx y s := by
  cases y <;> rfl

theorem idxPair_ne_af (y : Idx) : idxPair y ≠ .af := by
  cases y <;> decide

theorem idxPair_ne_sp (y : Idx) : idxPair y ≠ .sp := by
  cases y <;> decide

theorem ne_af_of_inDd {p : Pair} (h : p.inDd = true) : p ≠ .af := by
  rintro rfl
  cases h

end Sys2Proof.Proofs
end

section
/-! PROOFS. Loads, stack and exchanges (40_load_exchange.md): O16 to O24. -/

namespace Sys2Proof.Proofs.LoadExchange

open Sys2Proof Sys2Proof.Machine Sys2Proof.Claims

-- One theorem at a time, as above.
set_option Elab.async false

/-! ## 8-bit loads and stores (R400 to R413) -/

/-- A register written after PC has moved past `k` bytes: what every 8-bit load does. -/
theorem setR_loadsByte (r : R8) (v : Byte) (k : Word) (s : State) :
    let t := setR r v (advance k s)
    FrameRegs s t k ∧ OnlyBytes [r] s t ∧ getR r t = v := by
  refine ⟨⟨⟨?_, fun pa => ?_⟩, ?_⟩, ⟨fun q hq => ?_, ?_, ?_, ?_⟩, getR_setR r v _⟩
  · cases r <;> rfl
  · rw [setR_mem, advance_mem]
  · rw [setR_flags, advance_reg]
  · exact getR_setR_ne r q v (advance k s) fun h => hq (h ▸ List.mem_singleton_self r)
  · rw [setR_ix, advance_ix]
  · rw [setR_iy, advance_iy]
  · rw [setR_sp, advance_sp]

/-- Settles O16: every form is one register write. -/
theorem byteLoadsIntoRegisters : Obligations.ByteLoadsIntoRegisters := fun s =>
  ⟨fun r q => ⟨_, rfl, setR_loadsByte r (getR q s) 1 s⟩,
    fun r n => ⟨_, rfl, setR_loadsByte r n 2 s⟩,
    fun r => ⟨_, rfl, setR_loadsByte r (srcM s) 1 s⟩,
    fun r y d => ⟨_, rfl, setR_loadsByte r (srcX y d s) 3 s⟩,
    ⟨_, rfl, setR_loadsByte .a (readMem s (regBc s)) 1 s⟩,
    ⟨_, rfl, setR_loadsByte .a (readMem s (regDe s)) 1 s⟩,
    fun mn => ⟨_, rfl, setR_loadsByte .a (readMem s mn) 3 s⟩⟩

/-- A byte written after PC has moved past `k` bytes: what every 8-bit store does. -/
theorem writeMem_storesByte (la : Word) (v : Byte) (k : Word) (s : State) :
    let t := writeMem .data la v (advance k s)
    Stores .data s t [(la, v)] ∧ StoreFrame t { s with pc := s.pc + k } :=
  ⟨stores_writeMem .data la v k s, storeFrame_writeMem (storeFrame_refl (advance k s)) .data la v⟩

/-- Settles O17: every form is one byte write, checked as R907 says. -/
theorem byteStoresToMemory : Obligations.ByteStoresToMemory := fun s =>
  ⟨fun r => ⟨_, rfl, writeMem_storesByte (regHl s) (getR r s) 1 s⟩,
    fun y d r => ⟨_, rfl, writeMem_storesByte (eaIdx y d s) (getR r s) 3 s⟩,
    fun n => ⟨_, rfl, writeMem_storesByte (regHl s) n 2 s⟩,
    fun y d n => ⟨_, rfl, writeMem_storesByte (eaIdx y d s) n 4 s⟩,
    ⟨_, rfl, writeMem_storesByte (regBc s) s.reg.a 1 s⟩,
    ⟨_, rfl, writeMem_storesByte (regDe s) s.reg.a 1 s⟩,
    fun mn => ⟨_, rfl, writeMem_storesByte mn s.reg.a 3 s⟩⟩

theorem loadSpecial_spec (v : Byte) (s : State) :
    let t := loadSpecial v (advance 2 s)
    FrameAF s t 2 ∧ t.reg.a = v ∧
      SixFlags s t (decide (128 ≤ v.toNat)) (decide (v.toNat = 0)) false s.iff2 false s.reg.f.c := by
  refine ⟨⟨rfl, fun _ => rfl⟩, rfl, BitVec.msb_eq_decide v, beq_zero_eq_decide_toNat v, rfl, rfl, rfl, rfl, fun h => ?_⟩
  have kept := u53Bits_keep (s := setR .a v (advance 2 s)) h
  exact ⟨congrArg Prod.fst kept, congrArg Prod.snd kept⟩

/-- Settles O18: both loads into A are `loadSpecial`; those into I and R write one field. -/
theorem specialRegisterLoads : Obligations.SpecialRegisterLoads := fun s =>
  ⟨⟨_, rfl, loadSpecial_spec s.i s⟩, ⟨_, rfl, loadSpecial_spec s.r s⟩, ⟨_, rfl, rfl, fun _ => rfl⟩,
    ⟨_, rfl, rfl, fun _ => rfl⟩⟩

/-! ## 16-bit loads and stores (R414 to R423) -/

/-- A word register but AF written after PC has moved past `k` bytes: what every 16-bit load does. -/
theorem setPair_loadsWord {p : Pair} (h : p ≠ .af) (w k : Word) (s : State) :
    let t := setPair p w (advance k s)
    FrameRegs s t k ∧ OnlyPair p s t ∧ getPair p t = w := by
  refine ⟨⟨⟨?_, fun pa => ?_⟩, setPair_flags h w _⟩, onlyPair_setPair p w (advance k s), getPair_setPair p w _⟩
  · cases p <;> rfl
  · rw [setPair_mem, advance_mem]

theorem setIdx_loadsWord (y : Idx) (w k : Word) (s : State) :
    let t := setIdx y w (advance k s)
    FrameRegs s t k ∧ OnlyPair (idxPair y) s t ∧ getPair (idxPair y) t = w := by
  rw [setIdx_eq_setPair]
  exact setPair_loadsWord (idxPair_ne_af y) w k s

/-- Settles O19: every form is one write of a word register. -/
theorem wordLoadsIntoRegisters : Obligations.WordLoadsIntoRegisters := fun s =>
  ⟨fun _ mn hp => ⟨_, rfl, setPair_loadsWord (ne_af_of_inDd hp) mn 3 s⟩,
    fun y mn => ⟨_, rfl, setIdx_loadsWord y mn 4 s⟩,
    fun mn => ⟨_, rfl, setPair_loadsWord (p := .hl) (by decide) (readMem16 s mn) 3 s⟩,
    fun _ mn hp => ⟨_, rfl, setPair_loadsWord (ne_af_of_inDd hp) (readMem16 s mn) 4 s⟩,
    fun y mn => ⟨_, rfl, setIdx_loadsWord y (readMem16 s mn) 4 s⟩,
    ⟨_, rfl, setPair_loadsWord (p := .sp) (by decide) (regHl s) 1 s⟩,
    fun y => ⟨_, rfl, setPair_loadsWord (p := .sp) (by decide) (getIdx y s) 2 s⟩⟩

/-- A word written after PC has moved past `k` bytes: what every 16-bit store does. -/
theorem writeMem16_storesWord (la w k : Word) (s : State) :
    let t := writeMem16 .data la w (advance k s)
    Stores .data s t [(la, low w), (la + 1, high w)] ∧ StoreFrame t { s with pc := s.pc + k } :=
  ⟨stores_writeMem16 .data la w k s, storeFrame_writeMem16 (storeFrame_refl (advance k s)) .data la w⟩

/-- Settles O20: every form is two byte writes, low address first (R204). -/
theorem wordStoresToMemory : Obligations.WordStoresToMemory := fun s mn =>
  ⟨⟨_, rfl, writeMem16_storesWord mn (regHl s) 3 s⟩,
    fun p _ => ⟨_, rfl, writeMem16_storesWord mn (getPair p s) 4 s⟩,
    fun y => ⟨_, rfl, writeMem16_storesWord mn (getIdx y s) 4 s⟩⟩

/-! ## The stack (R424 to R427) -/

theorem push16_pushes (w k : Word) (s : State) :
    let t := push16 w (advance k s)
    Pushed s t w ∧ StoreFrame t { s with sp := s.sp - 2, pc := s.pc + k } :=
  ⟨pushed_push16 w k s, storeFrame_push16 w (advance k s)⟩

/-- Settles O21: both forms are `push16`; the byte of F has bit 7 first (R108). -/
theorem pushStoresWord : Obligations.PushStoresWord := fun s =>
  ⟨fun p _ => ⟨_, rfl, push16_pushes (getPair p s) 1 s⟩, fun y => ⟨_, rfl, push16_pushes (getIdx y s) 2 s⟩, rfl⟩

/-- The tt table of R303 holds pairs of the register bank only. -/
theorem setPair_tt_frame {p : Pair} (hp : p.inTt = true) (w : Word) (s : State) :
    setPair p w s = { s with reg := (setPair p w s).reg } := by
  cases p with
  | bc | de | hl | af => rfl
  | sp | ix | iy => cases hp

theorem popTt_spec {p : Pair} (hp : p.inTt = true) (w : Word) (s : State) :
    let t := setPair p w (dropStack (advance 1 s))
    Frame s t { s with reg := t.reg, sp := s.sp + 2, pc := s.pc + 1 } ∧
      (∀ q, q ∉ halves p → getR q t = getR q s) ∧ getPair p t = w ∧ (p ≠ .af → t.reg.f = s.reg.f) :=
  ⟨⟨setPair_tt_frame hp w _, fun pa => by rw [setPair_mem, dropStack_mem, advance_mem]⟩,
    fun _ hq => getR_setPair hq w (dropStack (advance 1 s)), getPair_setPair p w _, fun h => setPair_flags h w _⟩

theorem popXy_spec (y : Idx) (w : Word) (s : State) :
    let t := setIdx y w (dropStack (advance 2 s))
    Frame s t { s with ix := t.ix, iy := t.iy, sp := s.sp + 2, pc := s.pc + 2 } ∧
      getIdx y t = w ∧ (y = .ix → t.iy = s.iy) ∧ (y = .iy → t.ix = s.ix) := by
  refine ⟨⟨?_, fun pa => ?_⟩, getIdx_setIdx y w _, ?_, ?_⟩
  · cases y <;> rfl
  · rw [setIdx_mem, dropStack_mem, advance_mem]
  · rintro rfl
    rfl
  · rintro rfl
    rfl

/-- Settles O22: the word read is the one at SP before PC and SP move. -/
theorem popLoadsWord : Obligations.PopLoadsWord := fun s =>
  ⟨fun _ hp => ⟨_, rfl, popTt_spec hp (topOfStack s) s⟩, fun y => ⟨_, rfl, popXy_spec y (topOfStack s) s⟩⟩

/-! ## Exchanges (R428 to R432) -/

/-- Settles O23: DE and HL are exchanged half by half; the other two are single updates of the banks. -/
theorem registerExchanges : Obligations.RegisterExchanges := by
  intro s
  refine ⟨⟨_, rfl, ?_, fun _ => rfl⟩, ⟨_, rfl, rfl, fun _ => rfl⟩, ⟨_, rfl, rfl, fun _ => rfl⟩⟩
  simp only [setPair, regHl, regDe, hiByte_mk16, loByte_mk16, advance_reg]
  rfl

/-- A store, then a write of a word register other than SP and AF. -/
theorem setPair_storeFrame {p : Pair} (hp : p ≠ .sp) {t u : State} (h : StoreFrame t u) (w : Word) :
    let t' := setPair p w t
    StoreFrame t' { u with reg := t'.reg, ix := t'.ix, iy := t'.iy } := by
  obtain ⟨mem, sys, wp, fatal, rfl⟩ := storeFrame_iff.1 h
  cases p with
  | sp => exact absurd rfl hp
  | bc | de | hl | af | ix | iy => rfl

theorem exSp_exchanges {p : Pair} (hsp : p ≠ .sp) (haf : p ≠ .af) (k : Word) (s : State) :
    let t := setPair p (readMem16 s s.sp) (writeMem16 (exSpKind s) s.sp (getPair p s) (advance k s))
    Stores (exSpKind s) s t [(s.sp, low (getPair p s)), (s.sp + 1, high (getPair p s))] ∧
      StoreFrame t { s with reg := t.reg, ix := t.ix, iy := t.iy, pc := s.pc + k } ∧
      t.reg.f = s.reg.f ∧ OnlyPair p s t ∧ getPair p t = wordAt s s.sp := by
  refine ⟨stores_setPair (stores_writeMem16 _ _ _ k s) p _,
    setPair_storeFrame hsp (storeFrame_writeMem16 (storeFrame_refl (advance k s)) _ _ _) _, ?_,
    onlyPair_of_eq (onlyPair_setPair p _ _) ?_ ?_ ?_ ?_, getPair_setPair p _ _⟩
  · rw [setPair_flags haf, writeMem16_reg, advance_reg]
  · rw [writeMem16_reg, advance_reg]
  · rw [writeMem16_ix, advance_ix]
  · rw [writeMem16_iy, advance_iy]
  · rw [writeMem16_sp, advance_sp]

theorem execExSpXy_eq (y : Idx) (s : State) :
    execExSpXy y s = .next (setPair (idxPair y) (readMem16 s s.sp)
      (writeMem16 (exSpKind s) s.sp (getPair (idxPair y) s) (advance 2 s))) := by
  rw [← setIdx_eq_setPair, getPair_idxPair]
  rfl

/-- Settles O24: the word is read before the two writes (D5), so the register takes what SP held. -/
theorem stackTopExchange : Obligations.StackTopExchange := fun s =>
  ⟨⟨_, rfl, exSp_exchanges (p := .hl) (by decide) (by decide) 1 s⟩,
    fun y => ⟨_, execExSpXy_eq y s, exSp_exchanges (idxPair_ne_sp y) (idxPair_ne_af y) 2 s⟩⟩

end Sys2Proof.Proofs.LoadExchange
end

section
/-! PROOFS. Block transfer and block search (41_block.md): O25 and O26. -/

namespace Sys2Proof.Proofs.Block

open Sys2Proof Sys2Proof.Machine Sys2Proof.Claims

-- One theorem at a time, as above.
set_option Elab.async false

/-! ## The steps of the pointers and the count (R450, R452) -/

/-- What an iteration adds to HL and DE. -/
def delta (up : Bool) : Word := if up then 1 else -1

theorem stepWord_eq_add (up : Bool) (w : Word) : stepWord up w = w + delta up := by
  cases up
  · exact BitVec.sub_eq_add_neg w 1
  · rfl

theorem bne_zero_eq_decide (w : Word) : (w != 0#16) = decide (w ≠ 0) := by
  rw [Bool.eq_iff_iff, bne_iff_ne, decide_eq_true_eq]
  rfl

/-- The flags of a rule, written over a state with the parameters and flags of the state before (R109). -/
theorem sixFlags_writeFlags {s u : State} (hc : u.cfg = s.cfg) (hf : u.reg.f = s.reg.f) (f : Flags) :
    SixFlags s (writeFlags f u) f.s f.z f.h f.pv f.n f.c := by
  refine ⟨rfl, rfl, rfl, rfl, rfl, rfl, fun h => ?_⟩
  have kept : u53Bits u = (s.reg.f.u5, s.reg.f.u3) := by rw [u53Bits_keep (hc ▸ h), hf]
  exact ⟨congrArg Prod.fst kept, congrArg Prod.snd kept⟩

/-! ## PC and the held instruction after an iteration (R129, R458) -/

/-- What ends an iteration writes PC and the held instruction only. -/
def Settled (u t : State) : Prop := t = { u with pc := t.pc, repeating := t.repeating }

theorem settled_advance (k : Word) (u : State) : Settled u (advance k u) := rfl

theorem settled_finishIteration (again : Bool) (i : Instr) (u : State) :
    Settled u (finishIteration again i u) := by
  cases again <;> rfl

theorem settled_getPair {u t : State} (h : Settled u t) (p : Pair) : getPair p t = getPair p u := by
  rw [h]
  cases p <;> rfl

theorem once_advance {s u : State} (hpc : u.pc = s.pc) (hr : u.repeating = s.repeating) : Once s (advance 2 u) :=
  ⟨congrArg (· + 2) hpc, hr⟩

/-- The repeat test of the model is the condition of the statement. -/
theorem repeats_finishIteration {s u : State} {again : Bool} {p : Prop} (i : Instr) (hpc : u.pc = s.pc)
    (h : again = true ↔ p) : Repeats i p s (finishIteration again i u) := by
  cases again with
  | false => exact ⟨fun hp => absurd (h.2 hp) (by decide), fun _ => ⟨congrArg (· + 2) hpc, rfl⟩⟩
  | true => exact ⟨fun _ => ⟨hpc, rfl⟩, fun hp => absurd (h.1 rfl) hp⟩

/-! ## Block transfer (R450 to R453) -/

theorem transferStep_pc (up : Bool) (s : State) : (transferStep up s).pc = s.pc := by
  simp [transferStep]

theorem transferStep_repeating (up : Bool) (s : State) : (transferStep up s).repeating = s.repeating := by
  simp [transferStep]

theorem transferStep_bc (up : Bool) (s : State) : getPair .bc (transferStep up s) = getPair .bc s - 1 :=
  mk16_hi_lo _

theorem stores_nil (k : WriteKind) (s : State) : Stores k s s [] := ⟨fun _ => rfl, rfl, rfl, rfl⟩

theorem stores_congr {k : WriteKind} {s t u : State} {ws : List (Word × Byte)} (h : Stores k s t ws)
    (hm : u.mem = t.mem) (hs : u.sys = t.sys) (hw : u.wpPending = t.wpPending) (hf : u.fatal = t.fatal) :
    Stores k s u ws := by
  unfold Stores Bytes Traps at h ⊢
  rwa [hm, hs, hw, hf]

theorem transferStep_stores (up : Bool) (s : State) :
    Stores .data s (transferStep up s) [(getPair .de s, readMem s (getPair .hl s))] := by
  have stored : Stores .data s (writeMem .data (regDe s) (srcM s) s) [(regDe s, srcM s)] :=
    stores_snoc (sameMap_of_eq rfl rfl rfl) (stores_nil .data s) (regDe s) (srcM s)
  exact stores_congr stored (by simp [transferStep]) (by simp [transferStep]) (by simp [transferStep])
    (by simp [transferStep])

theorem transferStep_frame (up : Bool) (s : State) :
    let t := transferStep up s
    StoreFrame t { s with reg := t.reg, free := t.free } := by
  unfold transferStep
  rw [writeMem_spec]
  rfl

theorem transferStep_flags (up : Bool) (s : State) :
    let t := transferStep up s
    SixFlags s t s.reg.f.s s.reg.f.z false (decide (getPair .bc t ≠ 0)) false s.reg.f.c := by
  dsimp only
  rw [transferStep_bc, ← bne_zero_eq_decide]
  refine sixFlags_writeFlags (by simp) ?_ (flagsLdi (regBc s - 1#16) s.reg.f)
  simp only [ne_eq, reduceCtorEq, not_false_eq_true, setPair_flags, writeMem_reg]

theorem transferStep_a (up : Bool) (s : State) : (transferStep up s).reg.a = s.reg.a := by
  simp only [transferStep, writeFlags_reg_a, setPair, writeMem_reg]

/-- One iteration, wherever PC and the held instruction are left. -/
theorem transferStep_iteration (up : Bool) (s : State) {t : State} (ht : Settled (transferStep up s) t) :
    TransferIteration (delta up) s t := by
  rw [ht]
  refine ⟨stores_congr (transferStep_stores up s) rfl rfl rfl rfl, ?_, transferStep_a up s,
    (mk16_hi_lo _).trans (stepWord_eq_add up (regHl s)), (mk16_hi_lo _).trans (stepWord_eq_add up (regDe s)),
    transferStep_bc up s, transferStep_flags up s⟩
  obtain ⟨mem, sys, wp, fatal, hu⟩ := storeFrame_iff.1 (transferStep_frame up s)
  rw [hu]
  rfl

theorem transferAgain_iff (s : State) : transferAgain s = true ↔ getPair .bc s - 1 ≠ 0 := bne_iff_ne

/-- A form that does not repeat. -/
theorem transfer_once (up : Bool) (s : State) :
    let t := advance 2 (transferStep up s)
    TransferIteration (delta up) s t ∧ Once s t :=
  ⟨transferStep_iteration up s (settled_advance 2 _), once_advance (transferStep_pc up s) (transferStep_repeating up s)⟩

/-- A form that repeats: the count tested is the one the iteration leaves in BC. -/
theorem transfer_repeats (up : Bool) (i : Instr) (s : State) :
    let t := finishIteration (transferAgain s) i (transferStep up s)
    TransferIteration (delta up) s t ∧ Repeats i (getPair .bc t ≠ 0) s t := by
  have ht := settled_finishIteration (transferAgain s) i (transferStep up s)
  refine ⟨transferStep_iteration up s ht, repeats_finishIteration i (transferStep_pc up s) ?_⟩
  rw [settled_getPair ht, transferStep_bc]
  exact transferAgain_iff s

/-- Settles O25: the four forms are one iteration, upwards or downwards, once or with the repeat test. -/
theorem blockTransferIterates : Obligations.BlockTransferIterates := fun s =>
  ⟨⟨_, rfl, transfer_once true s⟩, ⟨_, rfl, transfer_once false s⟩, ⟨_, rfl, transfer_repeats true .ldir s⟩,
    ⟨_, rfl, transfer_repeats false .lddr s⟩⟩

/-! ## Block search (R454 to R457) -/

/-- A difference of two bytes without a borrow in, modulo 256. -/
theorem sub8_res_toNat (a b : Byte) : ((sub8 a b false).res.toNat : Int) = ((a.toNat : Int) - b.toNat) % 256 := by
  simp only [sub8, BitVec.toNat_ofInt, Bool.toNat_false]
  omega

/-- The bytes are equal exactly where their difference is 0. -/
theorem sub8_res_eq_zero_iff (a b : Byte) : (sub8 a b false).res = 0#8 ↔ a = b := by
  have diff := sub8_res_toNat a b
  rw [BitVec.toNat_eq, BitVec.toNat_eq (x := a), BitVec.toNat_zero]
  omega

theorem loNibble_toNat (b : Byte) : (loNibble b).toNat = b.toNat % 16 := BitVec.extractLsb'_toNat 0 4 b

theorem sub8_half (a b : Byte) : (sub8 a b false).h = decide (a.toNat % 16 < b.toNat % 16) := by
  show decide ((loNibble a).toNat < (loNibble b).toNat + 0) = _
  exact decide_eq_decide.2 (by rw [loNibble_toNat, loNibble_toNat, Nat.add_zero])

theorem searchStep_pc (up : Bool) (s : State) : (searchStep up s).pc = s.pc := by
  simp [searchStep]

theorem searchStep_repeating (up : Bool) (s : State) : (searchStep up s).repeating = s.repeating := by
  simp [searchStep]

theorem searchStep_bc (up : Bool) (s : State) : getPair .bc (searchStep up s) = getPair .bc s - 1 := mk16_hi_lo _

theorem searchStep_getR (up : Bool) (s : State) {q : R8} (h : q ∉ [R8.b, .c, .h, .l]) :
    getR q (searchStep up s) = getR q s := by
  cases q with
  | a | d | e => rfl
  | b | c | h | l => simp at h

theorem searchStep_flags (up : Bool) (s : State) :
    let o := searchCompare s
    SixFlags s (searchStep up s) (decide (128 ≤ o.res.toNat)) (decide (s.reg.a = readMem s (getPair .hl s)))
      (decide (s.reg.a.toNat % 16 < (readMem s (getPair .hl s)).toNat % 16))
      (decide (getPair .bc (searchStep up s) ≠ 0)) true s.reg.f.c := by
  have sign : decide (128 ≤ (searchCompare s).res.toNat) = (searchCompare s).res.msb :=
    (BitVec.msb_eq_decide (searchCompare s).res).symm
  have equal : decide (s.reg.a = readMem s (getPair .hl s)) = ((searchCompare s).res == 0#8) := by
    rw [Bool.eq_iff_iff, decide_eq_true_eq, beq_iff_eq]
    exact (sub8_res_eq_zero_iff s.reg.a (srcM s)).symm
  have half : decide (s.reg.a.toNat % 16 < (readMem s (getPair .hl s)).toNat % 16) = (searchCompare s).h :=
    (sub8_half s.reg.a (srcM s)).symm
  dsimp only
  rw [searchStep_bc, ← bne_zero_eq_decide, sign, equal, half]
  exact sixFlags_writeFlags rfl rfl _

/-- One iteration, wherever PC and the held instruction are left. -/
theorem searchStep_iteration (up : Bool) (s : State) {t : State} (ht : Settled (searchStep up s) t) :
    SearchIteration (delta up) s t := by
  rw [ht]
  exact ⟨⟨rfl, fun _ => rfl⟩, fun _ h => searchStep_getR up s h, (mk16_hi_lo _).trans (stepWord_eq_add up (regHl s)),
    searchStep_bc up s, _, sub8_res_toNat s.reg.a (srcM s), searchStep_flags up s⟩

theorem searchAgain_iff (s : State) :
    searchAgain s = true ↔ getPair .bc s - 1 ≠ 0 ∧ s.reg.a ≠ readMem s (getPair .hl s) := by
  have equal := sub8_res_eq_zero_iff s.reg.a (srcM s)
  rw [searchAgain, Bool.and_eq_true, bne_iff_ne, bne_iff_ne]
  exact and_congr_right' (not_congr equal)

/-- A form that does not repeat. -/
theorem search_once (up : Bool) (s : State) :
    let t := advance 2 (searchStep up s)
    SearchIteration (delta up) s t ∧ Once s t :=
  ⟨searchStep_iteration up s (settled_advance 2 _), once_advance (searchStep_pc up s) (searchStep_repeating up s)⟩

/-- A form that repeats: the count tested is the one in BC after, the byte compared that of (HL) before. -/
theorem search_repeats (up : Bool) (i : Instr) (s : State) :
    let t := finishIteration (searchAgain s) i (searchStep up s)
    SearchIteration (delta up) s t ∧
      Repeats i (getPair .bc t ≠ 0 ∧ s.reg.a ≠ readMem s (getPair .hl s)) s t := by
  have ht := settled_finishIteration (searchAgain s) i (searchStep up s)
  refine ⟨searchStep_iteration up s ht, repeats_finishIteration i (searchStep_pc up s) ?_⟩
  rw [settled_getPair ht, searchStep_bc]
  exact searchAgain_iff s

/-- Settles O26: as O25, with a compare, and the repeat test looks at its result too. -/
theorem blockSearchIterates : Obligations.BlockSearchIterates := fun s =>
  ⟨⟨_, rfl, search_once true s⟩, ⟨_, rfl, search_once false s⟩, ⟨_, rfl, search_repeats true .cpir s⟩,
    ⟨_, rfl, search_repeats false .cpdr s⟩⟩

end Sys2Proof.Proofs.Block
end

section
/-! PROOFS. LDIR copies a block (R450, R451, R458): O27. -/

namespace Sys2Proof.Proofs.BlockCopy

open Sys2Proof Sys2Proof.Machine Sys2Proof.Claims Sys2Proof.Proofs.Block

-- One theorem at a time, as above.
set_option Elab.async false

/-! ## The CPU version: no translation, no inhibited write (R209, R212) -/

theorem readMem_cpu {s : State} (hv : s.cfg.version = .cpu) (hl : s.late = []) (la : Word) :
    readMem s la = s.mem.get la.toNat := by
  rw [readMem_inTime s la hl, translate_cpu_toNat s la hv]

theorem writeInhibited_cpu {s : State} (hv : s.cfg.version = .cpu) (la : Word) : writeInhibited s la = false := by
  simp [writeInhibited, State.isMpu, hv]

/-! ## The steps of the machine (R458, R910) -/

/-- Between two iterations the opcode is not fetched again: the next step is the kept instruction. -/
theorem step_repeating {s : State} (h : Safety.AtFetch s) (i : Instr) (reg : Bank) (mem : Memory) (pc : Word)
    (free : Nat) :
    let u := { s with reg := reg, mem := mem, pc := pc, free := free, repeating := some i }
    step u = exec i u := by
  obtain ⟨hsched, hfatal, hrun, hwp, hnmi, hpin, hdma, hack, hcut, hint, -, -, hshadow, hei⟩ := h
  intro u
  rw [step_unscheduled u hsched, machineStep, plan_running u hfatal hrun, sampleNmi_idle u hpin,
    boundary_samples u hwp hshadow, sampleRequests_none u hdma hack hcut hnmi hint hei]
  rfl

theorem decode_ldir (b2 b3 : Byte) : decode 0xED 0xB0 b2 b3 = .instr .ldir := rfl

theorem prefetchedAfter_ldir (s : State) : prefetchedAfter .ldir s = none := by
  have never : prefetches .ldir = false := rfl
  simp [prefetchedAfter, never]

/-- The first step fetches LDIR and runs its first iteration. -/
theorem step_ldir {s : State} (h : Safety.Quiet s) (h0 : readMem s s.pc = 0xED) (h1 : readMem s (s.pc + 1) = 0xB0) :
    step s = exec .ldir s := by
  obtain ⟨atFetch, inhibited⟩ := h
  have empty : s.prefetched = none := by
    obtain ⟨-, -, -, -, -, -, -, -, -, -, -, empty, -⟩ := atFetch
    exact empty
  have kept : { s with prefetched := prefetchedAfter .ldir s } = s := by
    rw [prefetchedAfter_ldir, ← empty]
  have decoded : decode (readMem s s.pc) (readMem s (s.pc + 1#16)) (readMem s (s.pc + 2#16))
      (readMem s (s.pc + 3#16)) = .instr .ldir := by
    rw [h0, show readMem s (s.pc + 1#16) = 0xB0 from h1]
    exact decode_ldir _ _
  rw [step_atFetch s atFetch, fetchPlan_instr s .ldir inhibited empty decoded, kept]
  rfl

/-! ## The state after some of the iterations -/

/-- A source and a destination of `n` bytes that neither wrap nor overlap. -/
structure Apart (s : State) (n : Nat) : Prop where
  source : (getPair .hl s).toNat + n ≤ 65536
  target : (getPair .de s).toNat + n ≤ 65536
  disjoint : (getPair .hl s).toNat + n ≤ (getPair .de s).toNat ∨ (getPair .de s).toNat + n ≤ (getPair .hl s).toNat

/-- What an address reads as when `k` bytes of the block are copied. -/
def copiedByte (s : State) (k : Nat) (la : Word) : Byte :=
  if (getPair .de s).toNat ≤ la.toNat ∧ la.toNat < (getPair .de s).toNat + k then
    readMem s (getPair .hl s + (la - getPair .de s))
  else readMem s la

/-- `t` is the state after `k` iterations from `s`; PC and the held instruction are said apart. -/
structure Copied (s : State) (k : Nat) (t : State) : Prop where
  frame : t = { s with reg := t.reg, mem := t.mem, pc := t.pc, repeating := t.repeating, free := t.free }
  a : t.reg.a = s.reg.a
  bc : getPair .bc t = getPair .bc s - BitVec.ofNat 16 k
  hl : getPair .hl t = getPair .hl s + BitVec.ofNat 16 k
  de : getPair .de t = getPair .de s + BitVec.ofNat 16 k
  mem : ∀ la, readMem t la = copiedByte s k la

theorem copiedByte_zero (s : State) (la : Word) : copiedByte s 0 la = readMem s la := if_neg (by omega)

theorem copied_zero (s : State) : Copied s 0 s where
  frame := rfl
  a := rfl
  bc := (BitVec.sub_zero _).symm
  hl := (BitVec.add_zero _).symm
  de := (BitVec.add_zero _).symm
  mem la := (copiedByte_zero s la).symm

/-- The source is never overwritten: a byte of it is read as it was at the start. -/
theorem copiedByte_source {s : State} {n k : Nat} (apart : Apart s n) (hk : k < n) :
    copiedByte s k (getPair .hl s + BitVec.ofNat 16 k) = readMem s (getPair .hl s + BitVec.ofNat 16 k) := by
  obtain ⟨source, target, disjoint⟩ := apart
  refine if_neg ?_
  rw [BitVec.toNat_add, BitVec.toNat_ofNat]
  omega

/-- One byte more: the next of the destination takes the next of the source. -/
theorem copiedByte_succ {s : State} {n k : Nat} (apart : Apart s n) (hk : k < n) (la : Word) :
    copiedByte s (k + 1) la =
      if la = getPair .de s + BitVec.ofNat 16 k then readMem s (getPair .hl s + BitVec.ofNat 16 k)
      else copiedByte s k la := by
  have target := apart.target
  have next : (getPair .de s + BitVec.ofNat 16 k).toNat = (getPair .de s).toNat + k := by
    rw [BitVec.toNat_add, BitVec.toNat_ofNat]
    omega
  by_cases here : la = getPair .de s + BitVec.ofNat 16 k
  · rw [if_pos here, copiedByte, if_pos (by rw [here]; omega), here, BitVec.add_comm (getPair .de s),
      BitVec.add_sub_cancel]
  · have other : la.toNat ≠ (getPair .de s).toNat + k := fun e => here (BitVec.eq_of_toNat_eq (e.trans next.symm))
    rw [if_neg here]
    unfold copiedByte
    congr 1
    simp only [eq_iff_iff]
    omega

/-! ## One iteration of the CPU version -/

theorem iteration_frame {d : Word} {s t : State} (hv : s.cfg.version = .cpu) (h : TransferIteration d s t) :
    t = { s with reg := t.reg, mem := t.mem, pc := t.pc, repeating := t.repeating, free := t.free } := by
  obtain ⟨⟨-, traps⟩, frame, -⟩ := h
  have quiet : t.sys = s.sys ∧ t.wpPending = s.wpPending ∧ t.fatal = s.fatal := by
    simpa [Traps, writeInhibited_cpu hv] using traps
  obtain ⟨hsys, hwp, hfatal⟩ := quiet
  refine Eq.trans frame ?_
  rw [hsys, hwp, hfatal]

theorem iteration_readMem {d : Word} {s t : State} (hv : s.cfg.version = .cpu) (hl : s.late = [])
    (h : TransferIteration d s t) (la : Word) :
    readMem t la = if la = getPair .de s then readMem s (getPair .hl s) else readMem s la := by
  have frame := iteration_frame hv h
  have hv' : t.cfg.version = .cpu := by rw [frame]; exact hv
  have hl' : t.late = [] := by rw [frame]; exact hl
  obtain ⟨⟨bytes, -⟩, -⟩ := h
  have stored := bytes la.toNat
  rw [readMem_cpu hv' hl', stored]
  by_cases here : la = getPair .de s
  · simp [writeInhibited_cpu hv, translate_cpu_toNat _ _ hv, here]
  · have other : (getPair .de s).toNat ≠ la.toNat := fun e => here (BitVec.eq_of_toNat_eq e.symm)
    simp [writeInhibited_cpu hv, translate_cpu_toNat _ _ hv, here, other, readMem_cpu hv hl]

theorem copied_succ {s t u : State} {n k : Nat} (hv : s.cfg.version = .cpu) (hl : s.late = []) (apart : Apart s n)
    (hk : k < n) (h : Copied s k t) (iter : TransferIteration 1 t u) : Copied s (k + 1) u := by
  have hv' : t.cfg.version = .cpu := by rw [h.frame]; exact hv
  have hl' : t.late = [] := by rw [h.frame]; exact hl
  have frame := iteration_frame hv' iter
  have reads := iteration_readMem hv' hl' iter
  obtain ⟨-, -, ha, hhl, hde, hbc, -⟩ := iter
  have one : BitVec.ofNat 16 (k + 1) = BitVec.ofNat 16 k + 1 := BitVec.ofNat_add k 1
  refine ⟨?_, ha.trans h.a, ?_, ?_, ?_, fun la => ?_⟩
  · refine frame.trans ?_
    rw [h.frame]
  · rw [hbc, h.bc, one, BitVec.sub_sub]
  · rw [hhl, h.hl, one, BitVec.add_assoc]
  · rw [hde, h.de, one, BitVec.add_assoc]
  · rw [reads, h.hl, h.de, h.mem, h.mem, copiedByte_source apart hk, ← copiedByte_succ apart hk]

/-! ## All of the iterations -/

/-- The count is what is left to copy. -/
theorem Copied.bc_toNat {s t : State} {n k : Nat} (h : Copied s k t) (hn : (getPair .bc s).toNat = n) (hk : k ≤ n) :
    (getPair .bc t).toNat = n - k := by
  have fits : n < 65536 := hn ▸ (getPair .bc s).isLt
  rw [h.bc, BitVec.toNat_sub, BitVec.toNat_ofNat, hn]
  omega

/-- The count is 0 after the last iteration and not before it. -/
theorem Copied.bc_eq_zero_iff {s t : State} {n k : Nat} (h : Copied s k t) (hn : (getPair .bc s).toNat = n)
    (hk : k ≤ n) : getPair .bc t = 0 ↔ k = n := by
  rw [BitVec.toNat_eq, h.bc_toNat hn hk]
  show n - k = 0 ↔ k = n
  omega

/-- An iteration that is not the last leaves a state whose next step is the kept LDIR. -/
theorem Copied.step_eq_exec {s t : State} {k : Nat} (h : Copied s k t) (atFetch : Safety.AtFetch s)
    (held : t.repeating = some .ldir) : step t = exec .ldir t := by
  have frame := h.frame
  rw [held] at frame
  rw [frame]
  exact step_repeating atFetch .ldir t.reg t.mem t.pc t.free

theorem stepTimes_succ {t u : State} (h : step t = .next u) (r : Nat) : stepTimes (r + 1) t = stepTimes r u := by
  rw [stepTimes, h]

/-- From the state after `k` iterations, ready for one more, the `r + 1` that are left complete the instruction. -/
theorem stepTimes_ldir {s : State} {n : Nat} (atFetch : Safety.AtFetch s) (hv : s.cfg.version = .cpu)
    (hl : s.late = []) (apart : Apart s n) (hn : (getPair .bc s).toNat = n) (r : Nat) :
    ∀ (k : Nat) (t : State), k + (r + 1) = n → Copied s k t → t.pc = s.pc → step t = exec .ldir t →
      ∃ u, stepTimes (r + 1) t = some u ∧ Copied s n u ∧ u.repeating = none ∧ u.pc = s.pc + 2 ∧
        u.reg.f.pv = false := by
  induction r with
  | zero =>
    intro k t hk copied hpc ready
    obtain ⟨-, -, ⟨u, run, iter, -, ends⟩, -⟩ := blockTransferIterates t
    have all : Copied s n u := hk ▸ copied_succ hv hl apart (by omega) copied iter
    have empty : getPair .bc u = 0 := (all.bc_eq_zero_iff hn (by omega)).2 rfl
    obtain ⟨pc, held⟩ := ends (not_not_intro empty)
    obtain ⟨-, -, -, -, -, -, flags⟩ := iter
    obtain ⟨-, -, -, pv, -⟩ := flags
    exact ⟨u, stepTimes_succ (ready.trans run) 0, all, held, by rw [pc, hpc], pv.trans (by simp [empty])⟩
  | succ r ih =>
    intro k t hk copied hpc ready
    obtain ⟨-, -, ⟨u, run, iter, goes, -⟩, -⟩ := blockTransferIterates t
    have more : Copied s (k + 1) u := copied_succ hv hl apart (by omega) copied iter
    have left : getPair .bc u ≠ 0 := fun e => by
      have := (more.bc_eq_zero_iff hn (by omega)).1 e
      omega
    obtain ⟨pc, held⟩ := goes left
    obtain ⟨v, steps, done⟩ := ih (k + 1) u (by omega) more (pc.trans hpc) (more.step_eq_exec atFetch held)
    exact ⟨v, (stepTimes_succ (ready.trans run) (r + 1)).trans steps, done⟩

/-- Settles O27: the first step fetches, and each later one runs the kept LDIR. -/
theorem ldirCopiesBlock : Obligations.LdirCopiesBlock := by
  intro s n quiet late hv h0 h1 pos hn source target disjoint
  obtain ⟨r, rfl⟩ := Nat.exists_eq_succ_of_ne_zero (Nat.ne_of_gt pos)
  obtain ⟨t, steps, copied, held, pc, pv⟩ := stepTimes_ldir quiet.1 hv late ⟨source, target, disjoint⟩ hn r 0 s
    (by omega) (copied_zero s) rfl (step_ldir quiet h0 h1)
  have empty : getPair .bc t = 0 := (copied.bc_eq_zero_iff hn (Nat.le_refl _)).2 rfl
  exact ⟨t, steps, held, pc, empty, copied.hl, copied.de, copied.a, pv, copied.mem⟩

end Sys2Proof.Proofs.BlockCopy
end

section
/-! PROOFS. 8-bit arithmetic and logic (42_arith8.md): O6 to O11 and O15; the words of O4. -/

namespace Sys2Proof.Proofs.Arith8

open Sys2Proof Sys2Proof.Machine Sys2Proof.Claims

-- One theorem at a time, as above.
set_option Elab.async false

/-! ## `add8` and `sub8` in the terms of the statements (R17) -/

theorem add8_res_toNat (x y : Byte) (c : Bool) :
    (add8 x y c).res.toNat = (x.toNat + y.toNat + c.toNat) % 256 := BitVec.toNat_ofNat _ 8

theorem add8_half (x y : Byte) (c : Bool) :
    (add8 x y c).h = decide (15 < x.toNat % 16 + y.toNat % 16 + c.toNat) := by
  rw [← Block.loNibble_toNat, ← Block.loNibble_toNat]
  rfl

/-- Overflow: operands of one sign and a result of the other. -/
theorem add8_overflow (x y : Byte) (c : Bool) :
    (add8 x y c).v = decide (x.toInt + y.toInt + c.toNat < -128 ∨ 127 < x.toInt + y.toInt + c.toNat) := by
  have sum := add8_res_toNat x y c
  have carry := c.toNat_le
  show (x.msb == y.msb && (add8 x y c).res.msb != x.msb) = _
  rw [Bool.eq_iff_iff]
  simp only [Bool.and_eq_true, beq_iff_eq, bne_iff_ne, ne_eq, BitVec.msb_eq_decide, decide_eq_decide,
    decide_eq_true_eq, BitVec.toInt_eq_toNat_cond, sum]
  omega

theorem sub8_res_toNat (x y : Byte) (b : Bool) :
    ((sub8 x y b).res.toNat : Int) = ((x.toNat : Int) - y.toNat - b.toNat) % 256 := by
  simp only [sub8, BitVec.toNat_ofInt]
  omega

theorem sub8_half (x y : Byte) (b : Bool) :
    (sub8 x y b).h = decide (x.toNat % 16 < y.toNat % 16 + b.toNat) := by
  rw [← Block.loNibble_toNat, ← Block.loNibble_toNat]
  rfl

/-- Overflow: operands of different signs and a result of the sign subtracted. -/
theorem sub8_overflow (x y : Byte) (b : Bool) :
    (sub8 x y b).v = decide (x.toInt - y.toInt - b.toNat < -128 ∨ 127 < x.toInt - y.toInt - b.toNat) := by
  have diff := sub8_res_toNat x y b
  have borrow := b.toNat_le
  show (x.msb != y.msb && (sub8 x y b).res.msb != x.msb) = _
  rw [Bool.eq_iff_iff]
  simp only [Bool.and_eq_true, bne_iff_ne, ne_eq, BitVec.msb_eq_decide, decide_eq_decide, decide_eq_true_eq,
    BitVec.toInt_eq_toNat_cond]
  omega

/-- The flags of `add8` are those of an exact sum, whatever C is. -/
theorem byteSum_add8 {s t : State} {x y : Byte} {c cf : Bool}
    (h : SixFlags s t (add8 x y c).res.msb ((add8 x y c).res == 0#8) (add8 x y c).h (add8 x y c).v false cf) :
    ByteSum s t x y c (add8 x y c).res cf := by
  rw [BitVec.msb_eq_decide, beq_zero_eq_decide_toNat, add8_half, add8_overflow] at h
  exact ⟨add8_res_toNat x y c, h⟩

/-- The flags of `sub8` are those of an exact difference, whatever C is. -/
theorem byteDiff_sub8 {s t : State} {x y : Byte} {b cf : Bool}
    (h : SixFlags s t (sub8 x y b).res.msb ((sub8 x y b).res == 0#8) (sub8 x y b).h (sub8 x y b).v true cf) :
    ByteDiff s t x y b (sub8 x y b).res cf := by
  rw [BitVec.msb_eq_decide, beq_zero_eq_decide_toNat, sub8_half, sub8_overflow] at h
  exact ⟨sub8_res_toNat x y b, h⟩

/-! ## S, Z and parity from a result (R501) -/

/-- Counting the places where `p` holds, modulo 2, is adding them up with exclusive or. -/
theorem even_filter_length (p : Nat → Bool) (ks : List Nat) :
    decide ((ks.filter p).length % 2 = 0) = !(ks.foldr (fun k odd => p k ^^ odd) false) := by
  induction ks with
  | nil => rfl
  | cons k ks ih =>
    cases hk : p k with
    | false => simpa [hk] using ih
    | true =>
      rw [List.foldr_cons, hk, Bool.true_xor, ← ih, List.filter_cons_of_pos hk, List.length_cons, Bool.eq_iff_iff]
      simp only [Bool.not_eq_true', decide_eq_true_eq, decide_eq_false_iff_not]
      omega

theorem parityEven_eq_evenOnes (v : Byte) : parityEven v = evenOnes v := by
  rw [evenOnes, even_filter_length]
  simp [parityEven, List.range_succ]

theorem resultFlags_szp {s t : State} {res : Byte} {hf nf cf : Bool}
    (h : SixFlags s t res.msb (res == 0#8) hf (parityEven res) nf cf) : ResultFlags s t res hf nf cf := by
  rwa [BitVec.msb_eq_decide, beq_zero_eq_decide_toNat, parityEven_eq_evenOnes] at h

/-! ## Writing A and F, or F alone, after PC has moved -/

theorem frameAF_writeAcc (res : Byte) (f : Flags) (k : Word) (s : State) :
    FrameAF s (writeAcc res f (advance k s)) k := ⟨rfl, fun _ => rfl⟩

theorem frameF_writeFlags (f : Flags) (k : Word) (s : State) : FrameF s (writeFlags f (advance k s)) k :=
  ⟨rfl, fun _ => rfl⟩

theorem sixFlags_writeAcc (res : Byte) (f : Flags) (k : Word) (s : State) :
    SixFlags s (writeAcc res f (advance k s)) f.s f.z f.h f.pv f.n f.c :=
  Block.sixFlags_writeFlags rfl rfl f

theorem sixFlags_writeFlags_advance (f : Flags) (k : Word) (s : State) :
    SixFlags s (writeFlags f (advance k s)) f.s f.z f.h f.pv f.n f.c :=
  Block.sixFlags_writeFlags rfl rfl f

/-! ## The four source forms (R500) -/

/-- The four forms run one operation `op` on the source byte, each past its own length. -/
structure FormsOf (op : Byte → State → State) (reg : R8 → Instr) (imm : Byte → Instr) (atHl : Instr)
    (idx : Idx → Byte → Instr) : Prop where
  reg : ∀ r s, exec (reg r) s = .next (op (getR r s) (advance 1 s))
  imm : ∀ n s, exec (imm n) s = .next (op n (advance 2 s))
  atHl : ∀ s, exec atHl s = .next (op (srcM s) (advance 1 s))
  idx : ∀ y d s, exec (idx y d) s = .next (op (srcX y d s) (advance 3 s))

theorem formsOf_add : FormsOf accAdd .addAR .addAN .addAM .addAX :=
  ⟨fun _ _ => rfl, fun _ _ => rfl, fun _ => rfl, fun _ _ _ => rfl⟩

theorem formsOf_adc : FormsOf accAdc .adcAR .adcAN .adcAM .adcAX :=
  ⟨fun _ _ => rfl, fun _ _ => rfl, fun _ => rfl, fun _ _ _ => rfl⟩

theorem formsOf_sub : FormsOf accSub .subAR .subAN .subAM .subAX :=
  ⟨fun _ _ => rfl, fun _ _ => rfl, fun _ => rfl, fun _ _ _ => rfl⟩

theorem formsOf_sbc : FormsOf accSbc .sbcAR .sbcAN .sbcAM .sbcAX :=
  ⟨fun _ _ => rfl, fun _ _ => rfl, fun _ => rfl, fun _ _ _ => rfl⟩

theorem formsOf_and : FormsOf accAnd .andAR .andAN .andAM .andAX :=
  ⟨fun _ _ => rfl, fun _ _ => rfl, fun _ => rfl, fun _ _ _ => rfl⟩

theorem formsOf_xor : FormsOf accXor .xorAR .xorAN .xorAM .xorAX :=
  ⟨fun _ _ => rfl, fun _ _ => rfl, fun _ => rfl, fun _ _ _ => rfl⟩

theorem formsOf_or : FormsOf accOr .orAR .orAN .orAM .orAX :=
  ⟨fun _ _ => rfl, fun _ _ => rfl, fun _ => rfl, fun _ _ _ => rfl⟩

theorem formsOf_cp : FormsOf accCp .cpAR .cpAN .cpAM .cpAX :=
  ⟨fun _ _ => rfl, fun _ _ => rfl, fun _ => rfl, fun _ _ _ => rfl⟩

/-- What the operation does to every source byte, the four forms do. -/
theorem FormsOf.fourForms {op : Byte → State → State} {reg : R8 → Instr} {imm : Byte → Instr} {atHl : Instr}
    {idx : Idx → Byte → Instr} (forms : FormsOf op reg imm atHl idx) {s : State} {P : Byte → Word → State → Prop}
    (h : ∀ src k, P src k (op src (advance k s))) : FourForms reg imm atHl idx s P :=
  ⟨fun r => ⟨_, forms.reg r s, h _ 1⟩, fun n => ⟨_, forms.imm n s, h n 2⟩, ⟨_, forms.atHl s, h _ 1⟩,
    fun y d => ⟨_, forms.idx y d s, h _ 3⟩⟩

/-! ## Addition and subtraction (R504 to R507, R511, R514) -/

theorem writeAcc_add8 (x y : Byte) (c : Bool) (k : Word) (s : State) :
    let t := writeAcc (add8 x y c).res (flagsAdd (add8 x y c) s.reg.f) (advance k s)
    FrameAF s t k ∧ ByteSum s t x y c t.reg.a (carryOut x y c) :=
  ⟨frameAF_writeAcc _ _ k s, byteSum_add8 (sixFlags_writeAcc _ _ k s)⟩

theorem writeAcc_sub8 (x y : Byte) (b : Bool) (k : Word) (s : State) :
    let t := writeAcc (sub8 x y b).res (flagsSub (sub8 x y b) s.reg.f) (advance k s)
    FrameAF s t k ∧ ByteDiff s t x y b t.reg.a (borrowOut x y b) :=
  ⟨frameAF_writeAcc _ _ k s, byteDiff_sub8 (sixFlags_writeAcc _ _ k s)⟩

/-- Settles O6: both operations write back an `add8`, ADC with C as the carry in. -/
theorem addAndAdcCompute : Obligations.AddAndAdcCompute := fun s =>
  ⟨formsOf_add.fourForms fun src k => writeAcc_add8 s.reg.a src false k s,
    formsOf_adc.fourForms fun src k => writeAcc_add8 s.reg.a src s.reg.f.c k s⟩

theorem accCp_spec (src : Byte) (k : Word) (s : State) :
    let t := accCp src (advance k s)
    FrameF s t k ∧ ∃ res, ByteDiff s t s.reg.a src false res (borrowOut s.reg.a src false) :=
  ⟨frameF_writeFlags _ k s, _, byteDiff_sub8 (sixFlags_writeFlags_advance _ k s)⟩

/-- Subtracting from 0 borrows unless 0 is subtracted. -/
theorem borrowOut_zero (x : Byte) : borrowOut 0 x false = decide (x ≠ 0) := by
  refine decide_eq_decide.2 ?_
  rw [ne_eq, BitVec.toNat_eq]
  exact Nat.pos_iff_ne_zero

/-- Settles O7: all but CP write back a `sub8`; NEG subtracts A from 0. -/
theorem subtractGroupComputes : Obligations.SubtractGroupComputes := fun s =>
  ⟨formsOf_sub.fourForms fun src k => writeAcc_sub8 s.reg.a src false k s,
    formsOf_sbc.fourForms fun src k => writeAcc_sub8 s.reg.a src s.reg.f.c k s,
    formsOf_cp.fourForms fun src k => accCp_spec src k s,
    ⟨_, rfl, borrowOut_zero s.reg.a ▸ writeAcc_sub8 0 s.reg.a false 2 s⟩⟩

/-! ## Logic (R508 to R510, R519) -/

theorem accAnd_spec (src : Byte) (k : Word) (s : State) :
    let t := accAnd src (advance k s)
    FrameAF s t k ∧ (∀ b, t.reg.a.getLsbD b = (s.reg.a.getLsbD b && src.getLsbD b)) ∧
      ResultFlags s t t.reg.a true false false :=
  ⟨frameAF_writeAcc _ _ k s, fun _ => BitVec.getLsbD_and, resultFlags_szp (sixFlags_writeAcc _ _ k s)⟩

theorem accXor_spec (src : Byte) (k : Word) (s : State) :
    let t := accXor src (advance k s)
    FrameAF s t k ∧ (∀ b, t.reg.a.getLsbD b = (s.reg.a.getLsbD b != src.getLsbD b)) ∧
      ResultFlags s t t.reg.a false false false :=
  ⟨frameAF_writeAcc _ _ k s, fun _ => BitVec.getLsbD_xor, resultFlags_szp (sixFlags_writeAcc _ _ k s)⟩

theorem accOr_spec (src : Byte) (k : Word) (s : State) :
    let t := accOr src (advance k s)
    FrameAF s t k ∧ (∀ b, t.reg.a.getLsbD b = (s.reg.a.getLsbD b || src.getLsbD b)) ∧
      ResultFlags s t t.reg.a false false false :=
  ⟨frameAF_writeAcc _ _ k s, fun _ => BitVec.getLsbD_or, resultFlags_szp (sixFlags_writeAcc _ _ k s)⟩

theorem accTst_spec (src : Byte) (k : Word) (s : State) :
    let t := accTst src (advance k s)
    FrameF s t k ∧ ResultFlags s t (s.reg.a &&& src) true false false :=
  ⟨frameF_writeFlags _ k s, resultFlags_szp (sixFlags_writeFlags_advance _ k s)⟩

/-- Settles O8: each operation bit by bit, in all its forms. -/
theorem logicGroupComputes : Obligations.LogicGroupComputes := fun s =>
  ⟨formsOf_and.fourForms fun src k => accAnd_spec src k s, formsOf_xor.fourForms fun src k => accXor_spec src k s,
    formsOf_or.fourForms fun src k => accOr_spec src k s, fun r => ⟨_, rfl, accTst_spec (getR r s) 2 s⟩,
    fun n => ⟨_, rfl, accTst_spec n 3 s⟩, ⟨_, rfl, accTst_spec (srcM s) 2 s⟩⟩

/-! ## Increment and decrement (R502, R512, R513) -/

theorem getR_writeFlags (q : R8) (f : Flags) (s : State) : getR q (writeFlags f s) = getR q s := by
  cases q <;> rfl

/-- A register and F written: what INC and DEC of a register do. -/
theorem writeFlags_setR_spec (r : R8) (v : Byte) (f : Flags) (k : Word) (s : State) :
    let t := writeFlags f (setR r v (advance k s))
    FrameRegsF s t k ∧ OnlyBytes [r] s t ∧ getR r t = v ∧ SixFlags s t f.s f.z f.h f.pv f.n f.c := by
  obtain ⟨-, ⟨others, ix, iy, sp⟩, value⟩ := LoadExchange.setR_loadsByte r v k s
  refine ⟨⟨?_, fun pa => ?_⟩, ⟨fun q hq => (getR_writeFlags q f _).trans (others q hq), ix, iy, sp⟩,
    (getR_writeFlags r f _).trans value, Block.sixFlags_writeFlags (setR_cfg r v _) (setR_flags r v _) f⟩
  · cases r <;> rfl
  · rw [writeFlags_mem, setR_mem, advance_mem]

theorem incR_spec (r : R8) (s : State) :
    Runs (.incR r) s fun t =>
      FrameRegsF s t 1 ∧ OnlyBytes [r] s t ∧ ByteSum s t (getR r s) 1 false (getR r t) s.reg.f.c := by
  refine ⟨_, rfl, ?_⟩
  obtain ⟨frame, only, value, flags⟩ :=
    writeFlags_setR_spec r (add8 (getR r s) 1 false).res (flagsInc (add8 (getR r s) 1 false) s.reg.f) 1 s
  exact ⟨frame, only, value.symm ▸ byteSum_add8 flags⟩

theorem decR_spec (r : R8) (s : State) :
    Runs (.decR r) s fun t =>
      FrameRegsF s t 1 ∧ OnlyBytes [r] s t ∧ ByteDiff s t (getR r s) 1 false (getR r t) s.reg.f.c := by
  refine ⟨_, rfl, ?_⟩
  obtain ⟨frame, only, value, flags⟩ :=
    writeFlags_setR_spec r (sub8 (getR r s) 1 false).res (flagsDec (sub8 (getR r s) 1 false) s.reg.f) 1 s
  exact ⟨frame, only, value.symm ▸ byteDiff_sub8 flags⟩

/-- A byte of memory and F written, the flags whether or not the write is inhibited (R907): what every
read-modify-write instruction does. -/
theorem writeFlags_writeMem_spec (la : Word) (v : Byte) (f : Flags) (k : Word) (s : State) :
    let t := writeFlags f (writeMem .data la v (advance k s))
    Stores .data s t [(la, v)] ∧ SixFlags s t f.s f.z f.h f.pv f.n f.c ∧
      StoreFrame t { s with reg := { s.reg with f := t.reg.f }, pc := s.pc + k, free := t.free } := by
  refine ⟨Block.stores_congr (stores_writeMem .data la v k s) rfl rfl rfl rfl,
    Block.sixFlags_writeFlags (writeMem_cfg ..) (by rw [writeMem_reg, advance_reg]) f, ?_⟩
  rw [writeMem_spec]
  rfl

theorem incAt_spec (la k : Word) (s : State) :
    let t := incAt la (advance k s)
    ∃ res, Stores .data s t [(la, res)] ∧ ByteSum s t (readMem s la) 1 false res s.reg.f.c ∧
      StoreFrame t { s with reg := { s.reg with f := t.reg.f }, pc := s.pc + k, free := t.free } := by
  obtain ⟨stores, flags, frame⟩ := writeFlags_writeMem_spec la (add8 (readMem s la) 1 false).res
    (flagsInc (add8 (readMem s la) 1 false) s.reg.f) k s
  exact ⟨_, stores, byteSum_add8 flags, frame⟩

theorem decAt_spec (la k : Word) (s : State) :
    let t := decAt la (advance k s)
    ∃ res, Stores .data s t [(la, res)] ∧ ByteDiff s t (readMem s la) 1 false res s.reg.f.c ∧
      StoreFrame t { s with reg := { s.reg with f := t.reg.f }, pc := s.pc + k, free := t.free } := by
  obtain ⟨stores, flags, frame⟩ := writeFlags_writeMem_spec la (sub8 (readMem s la) 1 false).res
    (flagsDec (sub8 (readMem s la) 1 false) s.reg.f) k s
  exact ⟨_, stores, byteDiff_sub8 flags, frame⟩

/-- Settles O9: a register form is one register write, a memory form one checked byte write, each with its flags. -/
theorem incDecByteCompute : Obligations.IncDecByteCompute := fun s =>
  ⟨fun r => ⟨incR_spec r s, decR_spec r s⟩,
    ⟨⟨_, rfl, incAt_spec (regHl s) 1 s⟩, fun y d => ⟨_, rfl, incAt_spec (eaIdx y d s) 3 s⟩⟩,
    ⟨⟨_, rfl, decAt_spec (regHl s) 1 s⟩, fun y d => ⟨_, rfl, decAt_spec (eaIdx y d s) 3 s⟩⟩⟩

/-! ## CPL, CCF and SCF (R515, R517, R518) -/

theorem flagsCcf_h (m : CcfMode) (f : Flags) : (flagsCcf m f).h = (f.c && m == .z80) := by
  cases m with
  | z80 => exact (Bool.and_true f.c).symm
  | z180 => exact (Bool.and_false f.c).symm

/-- Settles O10: one write of flags each, and CPL writes A too. -/
theorem complementAndCarryOps : Obligations.ComplementAndCarryOps := fun s =>
  ⟨⟨_, rfl, frameAF_writeAcc _ _ 1 s, fun b hb => by
      show (~~~s.reg.a).getLsbD b = _
      rw [BitVec.getLsbD_not, decide_eq_true hb, Bool.true_and], sixFlags_writeAcc _ _ 1 s⟩,
    ⟨_, rfl, frameF_writeFlags _ 1 s, flagsCcf_h s.cfg.ccfMode s.reg.f ▸ sixFlags_writeFlags_advance _ 1 s⟩,
    ⟨_, rfl, frameF_writeFlags _ 1 s, sixFlags_writeFlags_advance _ 1 s⟩⟩

/-! ## The decimal adjustment (R516) -/

/-- The low digit is adjusted. -/
def lowAdjusts (f : Flags) (a : Byte) : Bool := f.h || decide ((loNibble a).toNat > 9)

/-- The high digit is adjusted; this is C after. -/
def highAdjusts (f : Flags) (a : Byte) : Bool := f.c || decide (a.toNat > 0x99)

/-- The number added, modulo 256, for the two adjustments, which are subtracted where N is set. -/
def adjustment (n low high : Bool) : Byte :=
  let fix := (if low then 0x06#8 else 0x00#8) + if high then 0x60#8 else 0x00#8
  if n then 0#8 - fix else fix

theorem daaZ80_eq (f : Flags) (a : Byte) :
    daaZ80 f a = (adjustment f.n (lowAdjusts f a) (highAdjusts f a), highAdjusts f a) := rfl

theorem lowAdjusts_iff (f : Flags) (a : Byte) : lowAdjusts f a = true ↔ f.h = true ∨ 9 < a.toNat % 16 := by
  rw [lowAdjusts, Bool.or_eq_true, decide_eq_true_eq, Block.loNibble_toNat]

theorem highAdjusts_iff (f : Flags) (a : Byte) : highAdjusts f a = true ↔ f.c = true ∨ 0x99 < a.toNat := by
  rw [highAdjusts, Bool.or_eq_true, decide_eq_true_eq]

theorem add_adjustment_toNat (a : Byte) (n low high : Bool) :
    let fix : Int := (if low = true then 6 else 0) + if high = true then 0x60 else 0
    ((a + adjustment n low high).toNat : Int) = (if n then a.toNat - fix else a.toNat + fix) % 256 := by
  have := a.isLt
  rw [BitVec.toNat_add]
  cases n <;> cases low <;> cases high <;> simp [adjustment] <;> omega

/-! ### The table -/

theorem hiNibble_toNat (b : Byte) : (hiNibble b).toNat = b.toNat / 16 := by
  have := b.isLt
  rw [hiNibble, BitVec.extractLsb'_toNat, Nat.shiftRight_eq_div_pow]
  omega

theorem applies_iff (row : DaaRow) (f : Flags) (a : Byte) :
    row.applies f a = true ↔
      row.n = f.n ∧ row.c = f.c ∧ row.h = f.h ∧ row.hiFrom ≤ a.toNat / 16 ∧ a.toNat / 16 ≤ row.hiTo ∧
        row.loFrom ≤ a.toNat % 16 ∧ a.toNat % 16 ≤ row.loTo := by
  simp only [DaaRow.applies, Bool.and_eq_true, beq_iff_eq, decide_eq_true_eq, hiNibble_toNat, Block.loNibble_toNat,
    and_assoc]

/-- The number a row adds, or its negative, has bit 1 set exactly where it adjusts the low digit. -/
theorem daaRow_added : ∀ row ∈ daaRows, row.added = adjustment row.n (row.added.getLsbD 1) row.cOut := by
  decide

/-- A row adjusts the digits that the rule does. -/
theorem daaRow_adjusts {row : DaaRow} {f : Flags} {a : Byte} (mem : row ∈ daaRows) (h : row.applies f a = true) :
    lowAdjusts f a = row.added.getLsbD 1 ∧ highAdjusts f a = row.cOut := by
  obtain ⟨-, hc, hh, hiFrom, hiTo, loFrom, loTo⟩ := (applies_iff row f a).1 h
  rw [Bool.eq_iff_iff, lowAdjusts_iff, Bool.eq_iff_iff (a := highAdjusts f a), highAdjusts_iff, ← hc, ← hh]
  simp only [daaRows, List.mem_cons, List.not_mem_nil, or_false] at mem
  rcases mem with rfl | rfl | rfl | rfl | rfl | rfl | rfl | rfl | rfl | rfl | rfl | rfl | rfl
  all_goals
    dsimp only at *
    constructor <;> simp <;> omega

/-- Where the table lists the input, it says what the rule does. -/
theorem daaLookup_eq_daaZ80 {f : Flags} {a : Byte} {r : Byte × Bool} (h : daaLookup f a = some r) :
    r = daaZ80 f a := by
  obtain ⟨row, found, rfl⟩ := Option.map_eq_some_iff.1 h
  have mem := List.mem_of_find?_eq_some found
  have applies := List.find?_some found
  obtain ⟨low, high⟩ := daaRow_adjusts mem applies
  rw [daaZ80_eq, low, high, ← ((applies_iff row f a).1 applies).1, ← daaRow_added row mem]

/-- The rows cover the inputs of the statement. -/
theorem daaLookup_listed {f : Flags} {a : Byte} (h : daaListed f a) : daaLookup f a ≠ none := by
  have := a.isLt
  rw [← Option.isSome_iff_ne_none, daaLookup, Option.isSome_map, List.find?_isSome]
  simp only [applies_iff]
  simp only [daaListed] at h
  cases hn : f.n <;> cases hc : f.c <;> cases hh : f.h
  all_goals
    simp only [hn, hc, hh] at h
    simp only [daaRows, List.mem_cons, List.not_mem_nil, exists_eq_or_imp, exists_eq_left, reduceCtorEq, true_and,
      false_and, false_or, or_false]
    omega

/-! ### DAA -/

theorem daaKnown_spec (added : Byte) (c : Bool) (s : State) :
    let t := daaKnown added c (advance 1 s)
    FrameAF s t 1 ∧ ResultFlags s t t.reg.a t.reg.f.h s.reg.f.n c :=
  ⟨⟨rfl, fun _ => rfl⟩, resultFlags_szp (Block.sixFlags_writeFlags rfl rfl _)⟩

/-- Outside the table under `DAA_OUTSIDE_TABLE` = any: A and F are written, N is kept. -/
theorem daaUnknown_spec (s : State) :
    let t := daaUnknown (advance 1 s)
    FrameAF s t 1 ∧ t.reg.f.n = s.reg.f.n ∧
      (s.cfg.u53 = .keep → t.reg.f.u5 = s.reg.f.u5 ∧ t.reg.f.u3 = s.reg.f.u3) := by
  obtain ⟨-, -, -, -, n, -, unused⟩ : SixFlags s (daaUnknown (advance 1 s)) _ _ _ _ s.reg.f.n _ :=
    Block.sixFlags_writeFlags rfl rfl _
  exact ⟨⟨rfl, fun _ => rfl⟩, n, unused⟩

/-- DAA adjusts as the rule does, or neither the table nor `DAA_OUTSIDE_TABLE` says what it does. -/
theorem exec_daa_cases (s : State) :
    exec .daa s =
        .next (daaKnown (daaZ80 s.reg.f s.reg.a).1 (daaZ80 s.reg.f s.reg.a).2 (advance 1 s)) ∨
      exec .daa s = .next (daaUnknown (advance 1 s)) ∧ ¬ (daaListed s.reg.f s.reg.a ∨ s.cfg.daaOutside = .z80) := by
  show execDaa s = _ ∨ execDaa s = _ ∧ _
  unfold execDaa
  cases found : daaLookup s.reg.f s.reg.a with
  | some r => exact .inl (daaLookup_eq_daaZ80 found ▸ rfl)
  | none =>
    have unlisted : ¬ daaListed s.reg.f s.reg.a := fun h => daaLookup_listed h found
    cases policy : s.cfg.daaOutside with
    | z80 => exact .inl rfl
    | any => exact .inr ⟨rfl, fun h => h.elim unlisted nofun⟩

theorem daaKnown_adjusts (s : State) :
    let t := daaKnown (daaZ80 s.reg.f s.reg.a).1 (daaZ80 s.reg.f s.reg.a).2 (advance 1 s)
    let fix : Int :=
      (if s.reg.f.h = true ∨ 9 < s.reg.a.toNat % 16 then 6 else 0) +
        (if s.reg.f.c = true ∨ 0x99 < s.reg.a.toNat then 0x60 else 0)
    (t.reg.a.toNat : Int) = (if s.reg.f.n then s.reg.a.toNat - fix else s.reg.a.toNat + fix) % 256 := by
  dsimp only
  simp only [← lowAdjusts_iff, ← highAdjusts_iff]
  exact add_adjustment_toNat ..

/-- Settles O11: inside the table the rows agree with the rule, outside it the parameter decides. -/
theorem daaAdjusts : Obligations.DaaAdjusts := by
  intro s
  obtain run | ⟨run, undefined⟩ := exec_daa_cases s
  · obtain ⟨frame, flags⟩ := daaKnown_spec (daaZ80 s.reg.f s.reg.a).1 (daaZ80 s.reg.f s.reg.a).2 s
    have ⟨_, _, _, _, n, _, unused⟩ := flags
    exact ⟨_, run, frame, n, unused, fun _ => ⟨daaKnown_adjusts s, flags⟩⟩
  · obtain ⟨frame, n, unused⟩ := daaUnknown_spec s
    exact ⟨_, run, frame, n, unused, fun h => absurd h undefined⟩

/-! ## MLT (R520) -/

/-- The product of two bytes fits a word. -/
theorem mulHalves_toNat (w : Word) : (mulHalves w).toNat = w.toNat / 256 * (w.toNat % 256) := by
  have bound : w.toNat / 256 * (w.toNat % 256) ≤ 255 * 255 :=
    Nat.mul_le_mul (by have := w.isLt; omega) (by omega)
  simp only [mulHalves, zext16, BitVec.toNat_mul, BitVec.toNat_setWidth, hiByte_toNat, loByte_toNat]
  have := w.isLt
  rw [Nat.mod_eq_of_lt (a := w.toNat / 256) (by omega), Nat.mod_eq_of_lt (a := w.toNat % 256) (by omega),
    Nat.mod_eq_of_lt (by omega)]

/-- Settles O15: one write of the word register, with the product of its halves. -/
theorem multiplyHalvesComputes : Obligations.MultiplyHalvesComputes := by
  intro s p hp
  obtain ⟨frame, only, value⟩ := LoadExchange.setPair_loadsWord (ne_af_of_inDd hp) (mulHalves (getPair p s)) 2 s
  exact ⟨_, rfl, frame, only, (congrArg BitVec.toNat value).trans (mulHalves_toNat _)⟩

/-! ## Words of the spec (R500, R316) -/

/-- Settles O4: each word is the encoding of its instruction (O1); the last two are illegal on the ED page and on the
page of R315. -/
theorem specWordsDecode : Obligations.SpecWordsDecode :=
  ⟨Encoding.decodeOfEncode (.addAR .c) [0, 0, 0] rfl,
    Encoding.decodeOfEncode (.ldHlFromMn 0x9000) [0] rfl,
    Encoding.decodeOfEncode (.bitR 7 .a) [0, 0] rfl,
    Encoding.decodeOfEncode (.ldRX .a .ix 0xFF) [0] rfl,
    Encoding.decodeOfEncode (.resX 7 .iy 0xFF) [] rfl,
    Encoding.decodeOfEncode (.sbcHlSs .bc) [0, 0] rfl,
    Encoding.decodeOfEncode (.ldDdFromMn .sp 0x9000) [] rfl,
    Encoding.decodeOfEncode .ldir [0, 0] rfl,
    Encoding.decodeOfEncode .ldmsMmu [0, 0] rfl,
    rfl,
    (Encoding.decodeXyCb_eq_illegal3_iff .ix 0 0x36).2 (.inr rfl)⟩

end Sys2Proof.Proofs.Arith8
end

section
/-! PROOFS. 16-bit arithmetic (43_arith16.md): O12 to O14. -/

namespace Sys2Proof.Proofs.Arith16

open Sys2Proof Sys2Proof.Machine Sys2Proof.Claims

-- One theorem at a time, as above.
set_option Elab.async false

/-! ## `add16` and `sub16` in the terms of the statements (R17) -/

theorem lowTwelve_toNat (w : Word) : (w.extractLsb' 0 12).toNat = w.toNat % 4096 := BitVec.extractLsb'_toNat 0 12 w

theorem add16_res_toNat (x y : Word) (c : Bool) :
    (add16 x y c).res.toNat = (x.toNat + y.toNat + c.toNat) % 65536 := BitVec.toNat_ofNat _ 16

theorem add16_half (x y : Word) (c : Bool) :
    (add16 x y c).h = decide (4095 < x.toNat % 4096 + y.toNat % 4096 + c.toNat) := by
  rw [← lowTwelve_toNat, ← lowTwelve_toNat]
  rfl

/-- Overflow: operands of one sign and a result of the other. -/
theorem add16_overflow (x y : Word) (c : Bool) :
    (add16 x y c).v = decide (x.toInt + y.toInt + c.toNat < -32768 ∨ 32767 < x.toInt + y.toInt + c.toNat) := by
  have sum := add16_res_toNat x y c
  have carry := c.toNat_le
  show (x.msb == y.msb && (add16 x y c).res.msb != x.msb) = _
  rw [Bool.eq_iff_iff]
  simp only [Bool.and_eq_true, beq_iff_eq, bne_iff_ne, ne_eq, BitVec.msb_eq_decide, decide_eq_decide,
    decide_eq_true_eq, BitVec.toInt_eq_toNat_cond, sum]
  omega

theorem sub16_res_toNat (x y : Word) (b : Bool) :
    ((sub16 x y b).res.toNat : Int) = ((x.toNat : Int) - y.toNat - b.toNat) % 65536 := by
  simp only [sub16, BitVec.toNat_ofInt]
  omega

theorem sub16_half (x y : Word) (b : Bool) :
    (sub16 x y b).h = decide (x.toNat % 4096 < y.toNat % 4096 + b.toNat) := by
  rw [← lowTwelve_toNat, ← lowTwelve_toNat]
  rfl

/-- Overflow: operands of different signs and a result of the sign subtracted. -/
theorem sub16_overflow (x y : Word) (b : Bool) :
    (sub16 x y b).v = decide (x.toInt - y.toInt - b.toNat < -32768 ∨ 32767 < x.toInt - y.toInt - b.toNat) := by
  have diff := sub16_res_toNat x y b
  have borrow := b.toNat_le
  show (x.msb != y.msb && (sub16 x y b).res.msb != x.msb) = _
  rw [Bool.eq_iff_iff]
  simp only [Bool.and_eq_true, bne_iff_ne, ne_eq, BitVec.msb_eq_decide, decide_eq_decide, decide_eq_true_eq,
    BitVec.toInt_eq_toNat_cond]
  omega

/-! ## A word register and F written, after PC has moved -/

theorem getPair_writeFlags {p : Pair} (h : p ≠ .af) (f : Flags) (s : State) :
    getPair p (writeFlags f s) = getPair p s := by
  cases p with
  | af => exact absurd rfl h
  | bc | de | hl | sp | ix | iy => rfl

/-- A word register but AF and the flags written: what ADD, ADC and SBC of a word do. -/
theorem writeFlags_setPair_spec {p : Pair} (h : p ≠ .af) (w : Word) (f : Flags) (k : Word) (s : State) :
    let t := writeFlags f (setPair p w (advance k s))
    FrameRegsF s t k ∧ OnlyPair p s t ∧ getPair p t = w ∧ SixFlags s t f.s f.z f.h f.pv f.n f.c := by
  obtain ⟨-, ⟨others, ix, iy, sp⟩, value⟩ := LoadExchange.setPair_loadsWord h w k s
  refine ⟨⟨?_, fun pa => ?_⟩, ⟨fun q hq => (Arith8.getR_writeFlags q f _).trans (others q hq), ix, iy, sp⟩,
    (getPair_writeFlags h f _).trans value, Block.sixFlags_writeFlags (setPair_cfg p w _) (setPair_flags h w _) f⟩
  · cases p <;> rfl
  · rw [writeFlags_mem, setPair_mem, advance_mem]

/-! ## ADD (R560, R561) -/

theorem writeFlags_add16 {p : Pair} (h : p ≠ .af) (x y k : Word) (s : State) :
    let t := writeFlags (flagsAdd16 (add16 x y false) s.reg.f) (setPair p (add16 x y false).res (advance k s))
    FrameRegsF s t k ∧ OnlyPair p s t ∧ (getPair p t).toNat = (x.toNat + y.toNat) % 65536 ∧
      SixFlags s t s.reg.f.s s.reg.f.z (decide (4095 < x.toNat % 4096 + y.toNat % 4096)) s.reg.f.pv false
        (decide (65535 < x.toNat + y.toNat)) := by
  obtain ⟨frame, only, value, flags⟩ :=
    writeFlags_setPair_spec h (add16 x y false).res (flagsAdd16 (add16 x y false) s.reg.f) k s
  exact ⟨frame, only, (congrArg BitVec.toNat value).trans (add16_res_toNat x y false), add16_half x y false ▸ flags⟩

/-- Settles O12: the three forms write back an `add16` with no carry in. -/
theorem addWordComputes : Obligations.AddWordComputes := fun s =>
  ⟨fun p _ => ⟨_, rfl, writeFlags_add16 (p := .hl) (by decide) (regHl s) (getPair p s) 1 s⟩,
    fun p _ => ⟨_, rfl, writeFlags_add16 (p := .ix) (by decide) s.ix (getPair p s) 2 s⟩,
    fun p _ => ⟨_, rfl, writeFlags_add16 (p := .iy) (by decide) s.iy (getPair p s) 2 s⟩⟩

/-! ## ADC and SBC (R562, R563) -/

theorem word_beq_zero_eq_decide_toNat (w : Word) : (w == 0#16) = decide (w.toNat = 0) := by
  rw [Bool.eq_iff_iff, beq_iff_eq, decide_eq_true_eq, BitVec.toNat_eq, BitVec.toNat_zero]

/-- S and Z over all 16 bits of a result that HL holds. -/
theorem sixFlags_word {s t : State} {res : Word} {hf pv nf cf : Bool} (value : getPair .hl t = res)
    (h : SixFlags s t res.msb (res == 0#16) hf pv nf cf) :
    SixFlags s t (decide (32768 ≤ (getPair .hl t).toNat)) (decide ((getPair .hl t).toNat = 0)) hf pv nf cf := by
  rwa [value, ← word_beq_zero_eq_decide_toNat, ← BitVec.msb_eq_decide (x := res)]

/-- Settles O13: HL takes an `add16` or a `sub16` with C as the carry in. -/
theorem adcSbcWordCompute : Obligations.AdcSbcWordCompute := by
  intro s p _ x y c
  let sum := add16 x y s.reg.f.c
  let diff := sub16 x y s.reg.f.c
  constructor
  case left =>
    obtain ⟨frame, only, value, flags⟩ :=
      writeFlags_setPair_spec (p := .hl) (by decide) sum.res (flagsAdc16 sum s.reg.f) 2 s
    refine ⟨_, rfl, frame, only, (congrArg BitVec.toNat value).trans (add16_res_toNat x y s.reg.f.c), ?_⟩
    rw [← add16_half, ← add16_overflow]
    exact sixFlags_word value flags
  case right =>
    obtain ⟨frame, only, value, flags⟩ :=
      writeFlags_setPair_spec (p := .hl) (by decide) diff.res (flagsSbc16 diff s.reg.f) 2 s
    refine ⟨_, rfl, frame, only,
      (congrArg (fun w : Word => (w.toNat : Int)) value).trans (sub16_res_toNat x y s.reg.f.c), ?_⟩
    rw [← sub16_half, ← sub16_overflow]
    exact sixFlags_word value flags

/-! ## INC and DEC (R564 to R567) -/

theorem add_one_toNat (w : Word) : (w + 1#16).toNat = (w.toNat + 1) % 65536 := BitVec.toNat_add w 1#16

theorem sub_one_toNat (w : Word) : (w - 1#16).toNat = (w.toNat + 65535) % 65536 := by
  rw [BitVec.toNat_sub, Nat.add_comm]
  rfl

/-- A word register but AF set to a word of value `n`, and no flag. -/
theorem setPair_toNat_spec {p : Pair} (h : p ≠ .af) {w : Word} {n : Nat} (hw : w.toNat = n) (k : Word) (s : State) :
    let t := setPair p w (advance k s)
    FrameRegs s t k ∧ OnlyPair p s t ∧ (getPair p t).toNat = n := by
  obtain ⟨frame, only, value⟩ := LoadExchange.setPair_loadsWord h w k s
  exact ⟨frame, only, (congrArg BitVec.toNat value).trans hw⟩

theorem setIdx_toNat_spec (y : Idx) {w : Word} {n : Nat} (hw : w.toNat = n) (k : Word) (s : State) :
    let t := setIdx y w (advance k s)
    FrameRegs s t k ∧ OnlyPair (idxPair y) s t ∧ (getIdx y t).toNat = n := by
  dsimp only
  rw [← getPair_idxPair, setIdx_eq_setPair]
  exact setPair_toNat_spec (idxPair_ne_af y) hw k s

/-- Settles O14: each form is one write of the word register, with its successor or its predecessor. -/
theorem incDecWordCompute : Obligations.IncDecWordCompute := fun s =>
  ⟨fun _ hp => ⟨⟨_, rfl, setPair_toNat_spec (ne_af_of_inDd hp) (add_one_toNat _) 1 s⟩,
      ⟨_, rfl, setPair_toNat_spec (ne_af_of_inDd hp) (sub_one_toNat _) 1 s⟩⟩,
    fun y => ⟨⟨_, rfl, setIdx_toNat_spec y (add_one_toNat _) 2 s⟩,
      ⟨_, rfl, setIdx_toNat_spec y (sub_one_toNat _) 2 s⟩⟩⟩

end Sys2Proof.Proofs.Arith16
end

section
/-! PROOFS. Rotates, shifts and bit operations (44_rotate_bit.md): O28 to O32. -/

namespace Sys2Proof.Proofs.RotateBit

open Sys2Proof Sys2Proof.Machine Sys2Proof.Claims

-- One theorem at a time, as above.
set_option Elab.async false

/-! ## The two memory forms of the CB page (R604) -/

/-- What an operation at an address does wherever the address is, its two memory forms do. -/
theorem twoMemoryForms_of_exec {op : Word → State → State} {atHl : Instr} {idx : Idx → Byte → Instr} {s : State}
    {P : Word → Word → State → Prop} (hl : exec atHl s = .next (op (regHl s) (advance 2 s)))
    (xy : ∀ y d, exec (idx y d) s = .next (op (eaIdx y d s) (advance 4 s)))
    (h : ∀ la k, P la k (op la (advance k s))) : TwoMemoryForms atHl idx 2 4 s P :=
  ⟨⟨_, hl, h _ 2⟩, fun y d => ⟨_, xy y d, h _ 4⟩⟩

/-! ## The seven operations on a byte (R605 to R611) -/

theorem getLsbD_seven_eq_topBit (x : Byte) : x.getLsbD 7 = topBit x :=
  (BitVec.msb_eq_getLsbD_last x).symm.trans (BitVec.msb_eq_decide x)

theorem getLsbD_zero_eq_bottomBit (x : Byte) : x.getLsbD 0 = bottomBit x := Nat.testBit_zero x.toNat

/-- Appending puts the first operand above the bits of the second. -/
theorem toNat_append_eq_add {m n : Nat} (x : BitVec m) (y : BitVec n) :
    (x ++ y).toNat = 2 ^ n * x.toNat + y.toNat := by
  rw [BitVec.toNat_append, ← Nat.shiftLeft_add_eq_or_of_lt y.isLt, Nat.shiftLeft_eq, Nat.mul_comm]

theorem movedLeft_moveLeft (x : Byte) (b : Bool) : movedLeft x b (moveLeft x b).res := by
  unfold movedLeft moveLeft
  rw [toNat_append_eq_add, BitVec.toNat_ofBool, BitVec.extractLsb'_toNat]
  have := b.toNat_le
  omega

theorem movedRight_moveRight (x : Byte) (b : Bool) : movedRight x b (moveRight x b).res := by
  unfold movedRight moveRight
  rw [toNat_append_eq_add, BitVec.toNat_ofBool, BitVec.extractLsb'_toNat, Nat.shiftRight_eq_div_pow]
  have := x.isLt
  omega

theorem shiftOf_shiftByte (k : Shift) (c : Bool) (x : Byte) :
    shiftOf k c x (shiftByte k c x).res (shiftByte k c x).out := by
  have top := getLsbD_seven_eq_topBit x
  have bottom := getLsbD_zero_eq_bottomBit x
  cases k with
  | rlc => exact ⟨top ▸ movedLeft_moveLeft x _, top⟩
  | rl => exact ⟨movedLeft_moveLeft x c, top⟩
  | sla => exact ⟨movedLeft_moveLeft x false, top⟩
  | rrc => exact ⟨bottom ▸ movedRight_moveRight x _, bottom⟩
  | rr => exact ⟨movedRight_moveRight x c, bottom⟩
  | sra => exact ⟨top ▸ movedRight_moveRight x _, bottom⟩
  | srl => exact ⟨movedRight_moveRight x false, bottom⟩

/-! ## Accumulator rotates (R600 to R603) -/

theorem rotateAcc_spec (k : Shift) (s : State) :
    let t := rotateAcc k (advance 1 s)
    FrameAF s t 1 ∧
      ∃ out, shiftOf k s.reg.f.c s.reg.a t.reg.a out ∧
        SixFlags s t s.reg.f.s s.reg.f.z false s.reg.f.pv false out :=
  ⟨Arith8.frameAF_writeAcc _ _ 1 s, _, shiftOf_shiftByte k s.reg.f.c s.reg.a, Arith8.sixFlags_writeAcc _ _ 1 s⟩

/-- Settles O28: the four are one rotate of A each, with its `Shift`. -/
theorem accumulatorRotates : Obligations.AccumulatorRotates := fun s =>
  ⟨⟨_, rfl, rotateAcc_spec .rlc s⟩, ⟨_, rfl, rotateAcc_spec .rl s⟩, ⟨_, rfl, rotateAcc_spec .rrc s⟩,
    ⟨_, rfl, rotateAcc_spec .rr s⟩⟩

/-! ## CB-page rotates and shifts (R604 to R611) -/

theorem shiftReg_spec (k : Shift) (r : R8) (s : State) :
    let t := shiftReg k r (advance 2 s)
    FrameRegsF s t 2 ∧ OnlyBytes [r] s t ∧
      ∃ out, shiftOf k s.reg.f.c (getR r s) (getR r t) out ∧ ResultFlags s t (getR r t) false false out := by
  let m := shiftByte k s.reg.f.c (getR r s)
  obtain ⟨frame, only, value, flags⟩ := Arith8.writeFlags_setR_spec r m.res (flagsRot m.res m.out s.reg.f) 2 s
  exact ⟨frame, only, m.out, value.symm ▸ shiftOf_shiftByte k _ _, value.symm ▸ Arith8.resultFlags_szp flags⟩

theorem shiftAt_spec (k : Shift) (la n : Word) (s : State) :
    let t := shiftAt k la (advance n s)
    ∃ res out, shiftOf k s.reg.f.c (readMem s la) res out ∧ ResultFlags s t res false false out ∧
      Stores .data s t [(la, res)] ∧
      StoreFrame t { s with reg := { s.reg with f := t.reg.f }, pc := s.pc + n, free := t.free } := by
  let m := shiftByte k s.reg.f.c (readMem s la)
  obtain ⟨stores, flags, frame⟩ :=
    Arith8.writeFlags_writeMem_spec la m.res (flagsRot m.res m.out s.reg.f) n s
  exact ⟨m.res, m.out, shiftOf_shiftByte k _ _, Arith8.resultFlags_szp flags, stores, frame⟩

/-- Settles O29: each operation in its register form and its two memory forms. -/
theorem rotatesAndShifts : Obligations.RotatesAndShifts := by
  intro s onReg onMem
  have reg (k : Shift) (r : R8) : onReg k r (shiftReg k r (advance 2 s)) := shiftReg_spec k r s
  have mem (k : Shift) (la n : Word) : onMem k la n (shiftAt k la (advance n s)) := shiftAt_spec k la n s
  exact
    ⟨fun r => ⟨_, rfl, reg .rlc r⟩, twoMemoryForms_of_exec rfl (fun _ _ => rfl) (mem .rlc),
      fun r => ⟨_, rfl, reg .rrc r⟩, twoMemoryForms_of_exec rfl (fun _ _ => rfl) (mem .rrc),
      fun r => ⟨_, rfl, reg .rl r⟩, twoMemoryForms_of_exec rfl (fun _ _ => rfl) (mem .rl),
      fun r => ⟨_, rfl, reg .rr r⟩, twoMemoryForms_of_exec rfl (fun _ _ => rfl) (mem .rr),
      fun r => ⟨_, rfl, reg .sla r⟩, twoMemoryForms_of_exec rfl (fun _ _ => rfl) (mem .sla),
      fun r => ⟨_, rfl, reg .sra r⟩, twoMemoryForms_of_exec rfl (fun _ _ => rfl) (mem .sra),
      fun r => ⟨_, rfl, reg .srl r⟩, twoMemoryForms_of_exec rfl (fun _ _ => rfl) (mem .srl)⟩

/-! ## Digit rotates (R612, R613) -/

theorem toNat_nibbles (hi lo : BitVec 4) : (hi ++ lo : Byte).toNat = 16 * hi.toNat + lo.toNat :=
  toNat_append_eq_add hi lo

/-- The byte written to (HL) and the low digit of A, by their numbers; the high digit of A stays. -/
theorem rotateDigit_spec {mem : Byte} {low : BitVec 4} {toMem toLow : Nat} (hmem : mem.toNat = toMem)
    (hlow : low.toNat = toLow) (s : State) :
    let t := rotateDigit mem low (advance 2 s)
    t.reg.a.toNat = 16 * (s.reg.a.toNat / 16) + toLow ∧ ResultFlags s t t.reg.a false false s.reg.f.c ∧
      Stores .data s t [(getPair .hl s, BitVec.ofNat 8 toMem)] ∧
      StoreFrame t { s with reg := { s.reg with a := t.reg.a, f := t.reg.f }, pc := s.pc + 2, free := t.free } := by
  subst hmem hlow
  have value : (rotateDigit mem low (advance 2 s)).reg.a = hiNibble s.reg.a ++ low := rfl
  have stored := stores_writeMem .data (regHl s) mem 2 s
  refine ⟨?_, ?_, ?_, ?_⟩
  · rw [value, toNat_nibbles, Arith8.hiNibble_toNat]
  · exact Arith8.resultFlags_szp
      (Block.sixFlags_writeFlags (by simp) (by simp) (flagsIn (hiNibble s.reg.a ++ low) s.reg.f))
  · rw [BitVec.ofNat_toNat, BitVec.setWidth_eq]
    exact Block.stores_congr stored rfl rfl rfl rfl
  · unfold rotateDigit
    rw [writeMem_spec]
    rfl

/-- Settles O30: both are `rotateDigit`, with the digits of A and of the byte read at HL. -/
theorem digitRotates : Obligations.DigitRotates := by
  intro s m a rotates
  have aLow : (loNibble s.reg.a).toNat = a % 16 := Block.loNibble_toNat s.reg.a
  have mLow : (loNibble (srcM s)).toNat = m % 16 := Block.loNibble_toNat (srcM s)
  have mHigh : (hiNibble (srcM s)).toNat = m / 16 := Arith8.hiNibble_toNat (srcM s)
  constructor
  case left =>
    have digits : (loNibble (srcM s) ++ loNibble s.reg.a : Byte).toNat = 16 * (m % 16) + a % 16 := by
      rw [toNat_nibbles, mLow, aLow]
    exact ⟨_, rfl, rotateDigit_spec digits mHigh s⟩
  case right =>
    have digits : (loNibble s.reg.a ++ hiNibble (srcM s) : Byte).toNat = 16 * (a % 16) + m / 16 := by
      rw [toNat_nibbles, aLow, mHigh]
    exact ⟨_, rfl, rotateDigit_spec digits mLow s⟩

/-! ## Bit test (R614) -/

theorem not_getLsbD_eq_decide (x : Byte) (n : Nat) : (!x.getLsbD n) = decide (x.toNat / 2 ^ n % 2 = 0) := by
  rw [← BitVec.testBit_toNat, Nat.testBit_eq_decide_div_mod_eq, ← decide_not]
  exact decide_eq_decide.2 Nat.mod_two_ne_one

theorem testBit_spec (b : BitVec 3) (x : Byte) (k : Word) (s : State) :
    let t := testBit b x (advance k s)
    FrameF s t k ∧
      SixFlags s t s.reg.f.s (decide (x.toNat / 2 ^ b.toNat % 2 = 0)) true s.reg.f.pv false s.reg.f.c :=
  ⟨Arith8.frameF_writeFlags _ k s,
    not_getLsbD_eq_decide x b.toNat ▸ Arith8.sixFlags_writeFlags_advance (flagsBit _ s.reg.f) k s⟩

/-- Settles O31: each form is one write of flags. -/
theorem bitTestSetsZ : Obligations.BitTestSetsZ := fun s b =>
  ⟨fun r => ⟨_, rfl, testBit_spec b (getR r s) 2 s⟩,
    twoMemoryForms_of_exec (op := fun la => testBit b (readMem s la)) rfl (fun _ _ => rfl) fun la k =>
      testBit_spec b (readMem s la) k s⟩

/-! ## SET and RES (R615, R616) -/

theorem getLsbD_bitMask (b : BitVec 3) (j : Nat) : (bitMask b).getLsbD j = decide (j = b.toNat) := by
  have inByte : b.toNat < 8 := b.isLt
  rw [bitMask, ← BitVec.twoPow_eq, BitVec.getLsbD_twoPow, decide_eq_true inByte, Bool.true_and]
  exact decide_eq_decide.2 eq_comm

/-- Bit `b` of `x` becomes `v`, and no other bit changes. -/
def Becomes (b : BitVec 3) (v : Bool) (x res : Byte) : Prop :=
  ∀ j, j < 8 → res.getLsbD j = if j = b.toNat then v else x.getLsbD j

theorem becomes_setBit (b : BitVec 3) (x : Byte) : Becomes b true x (setBit b x) := by
  intro j _
  rw [setBit, BitVec.getLsbD_or, getLsbD_bitMask]
  by_cases named : j = b.toNat <;> simp [named]

theorem becomes_clearBit (b : BitVec 3) (x : Byte) : Becomes b false x (clearBit b x) := by
  intro j hj
  rw [clearBit, BitVec.getLsbD_and, BitVec.getLsbD_not, getLsbD_bitMask, decide_eq_true hj]
  by_cases named : j = b.toNat <;> simp [named]

/-- A register written with its changed byte, and no flag. -/
theorem setR_becomes {b : BitVec 3} {v : Bool} {r : R8} {res : Byte} {s : State}
    (h : Becomes b v (getR r s) res) :
    let t := setR r res (advance 2 s)
    FrameRegs s t 2 ∧ OnlyBytes [r] s t ∧ Becomes b v (getR r s) (getR r t) := by
  obtain ⟨frame, only, value⟩ := LoadExchange.setR_loadsByte r res 2 s
  exact ⟨frame, only, value.symm ▸ h⟩

/-- Settles O32: each form is one write of the operand, with one bit of it changed. -/
theorem setAndResetBits : Obligations.SetAndResetBits := fun s b =>
  ⟨fun r => ⟨_, rfl, setR_becomes (becomes_setBit b (getR r s))⟩,
    twoMemoryForms_of_exec (op := fun la => writeMem .data la (setBit b (readMem s la))) rfl (fun _ _ => rfl)
      fun la k => ⟨_, becomes_setBit b _, LoadExchange.writeMem_storesByte la _ k s⟩,
    fun r => ⟨_, rfl, setR_becomes (becomes_clearBit b (getR r s))⟩,
    twoMemoryForms_of_exec (op := fun la => writeMem .data la (clearBit b (readMem s la))) rfl (fun _ _ => rfl)
      fun la k => ⟨_, becomes_clearBit b _, LoadExchange.writeMem_storesByte la _ k s⟩⟩

end Sys2Proof.Proofs.RotateBit
end

section
/-! PROOFS. Jumps, calls, returns and restarts (45_control.md): O33 to O35. -/

namespace Sys2Proof.Proofs.Control

open Sys2Proof Sys2Proof.Machine Sys2Proof.Claims

-- One theorem at a time, as above.
set_option Elab.async false

/-! ## Conditions (R700) -/

theorem condHolds_iff (cc : Cond) (f : Flags) : condHolds cc f = true ↔ holds cc f := by
  cases cc with
  | nz | nc | po | p => exact iff_of_eq (Bool.not_eq_true' _)
  | z | c | pe | m => exact Iff.rfl

/-- An instruction that ends in `u` where its condition holds, else in `v`: what is known of each is known of it. -/
theorem runs_of_cond {i : Instr} {cc : Cond} {s u v : State} {P Q : State → Prop}
    (e : exec i s = .next (if condHolds cc s.reg.f then u else v)) (hu : P u) (hv : Q v) :
    Runs i s fun t => (holds cc s.reg.f → P t) ∧ (¬ holds cc s.reg.f → Q t) := by
  refine ⟨_, e, ?_⟩
  by_cases met : holds cc s.reg.f
  · rw [if_pos ((condHolds_iff cc _).2 met)]
    exact ⟨fun _ => hu, absurd met⟩
  · rw [if_neg (mt (condHolds_iff cc _).1 met)]
    exact ⟨fun h => absurd h met, fun _ => hv⟩

/-! ## Jumps (R701 to R706) -/

theorem frame_setPc (w : Word) (s : State) : Frame s (s.setPc w) { s with pc := w } := ⟨rfl, fun _ => rfl⟩

/-- DJNZ tests the count it has written, the statement the one it found. -/
theorem execDjnz_eq (e : Byte) (s : State) :
    execDjnz e s = .next
      ((setR .b (s.reg.b - 1) s).setPc (if s.reg.b = 1 then s.pc + 2 else s.pc + 2 + e.signExtend 16)) := by
  have counted : s.reg.b - 1#8 = 0#8 ↔ s.reg.b = 1 := by
    rw [BitVec.sub_eq_iff_eq_add, BitVec.zero_add]
    rfl
  unfold execDjnz
  dsimp only
  by_cases last : s.reg.b = 1
  · rw [if_pos (counted.2 last), if_pos last]
    rfl
  · rw [if_neg (mt counted.1 last), if_neg last]
    rfl

/-- Settles O33: every jump is one write of PC; DJNZ writes B before it. -/
theorem jumpsSetPc : Obligations.JumpsSetPc := fun s =>
  ⟨fun mn => ⟨_, rfl, frame_setPc mn s⟩,
    fun _ mn => runs_of_cond rfl (frame_setPc mn s) (frame_setPc (s.pc + 3) s),
    ⟨_, rfl, frame_setPc (regHl s) s⟩,
    fun y => ⟨_, rfl, frame_setPc (getIdx y s) s⟩,
    fun e => ⟨_, rfl, frame_setPc (relTarget e (s.pc + 2)) s⟩,
    fun _ e _ => runs_of_cond rfl (frame_setPc (relTarget e (s.pc + 2)) s) (frame_setPc (s.pc + 2) s),
    fun e => ⟨_, execDjnz_eq e s, rfl, fun _ => rfl⟩⟩

/-! ## Calls and restarts (R707, R708, R713) -/

theorem advance_zero (s : State) : advance 0#16 s = s := by
  unfold advance
  rw [BitVec.add_zero]
  rfl

theorem pushed_setPc {s t : State} {w : Word} (h : Pushed s t w) (pc : Word) : Pushed s (t.setPc pc) w := h

theorem callTo_spec (ret target : Word) (s : State) :
    let t := callTo ret target s
    Pushed s t ret ∧ StoreFrame t { s with sp := s.sp - 2, pc := target } := by
  have pushed : Pushed s (push16 ret s) ret := by
    have moved := pushed_push16 ret 0#16 s
    rwa [advance_zero] at moved
  exact ⟨pushed_setPc pushed target, congrArg (State.setPc target) (storeFrame_push16 ret s)⟩

theorem restartAddr_eq_ofNat (v : BitVec 3) : restartAddr v = BitVec.ofNat 16 (8 * v.toNat) := by
  apply BitVec.eq_of_toNat_eq
  simp [restartAddr, Nat.mul_comm]

/-- Settles O34: every call taken is `callTo`. -/
theorem callsPushAndGo : Obligations.CallsPushAndGo := fun s =>
  ⟨fun mn => ⟨_, rfl, callTo_spec (s.pc + 3) mn s⟩,
    fun _ mn => runs_of_cond rfl (callTo_spec (s.pc + 3) mn s) (frame_setPc (s.pc + 3) s),
    fun v => ⟨_, rfl, restartAddr_eq_ofNat v ▸ callTo_spec (s.pc + 1) (restartAddr v) s⟩⟩

/-! ## The highest-priority index (R932, R940) -/

theorem mem_priorityList {n k : Nat} {s : State} : k ∈ priorityList n s ↔ k < n := by
  unfold priorityList
  split
  · rw [List.mem_reverse, List.mem_range]
  · exact List.mem_range

theorem pairwise_outranks_priorityList (n : Nat) (s : State) : (priorityList n s).Pairwise (outranks s) := by
  unfold priorityList outranks
  cases s.cfg.intPriority with
  | highIndexFirst => exact List.pairwise_reverse.2 List.pairwise_lt_range
  | lowIndexFirst => exact List.pairwise_lt_range

/-- The search in the order of priority finds the index that has the property where none that outranks it has. -/
theorem find?_priorityList {n k : Nat} {s : State} {p : Nat → Bool} (hk : k < n) (hp : p k = true)
    (first : ∀ j, j < n → outranks s j k → p j = false) : (priorityList n s).find? p = some k := by
  obtain ⟨before, after, split⟩ := List.append_of_mem (mem_priorityList (s := s).2 hk)
  have ordered := pairwise_outranks_priorityList n s
  rw [split] at ordered
  refine List.find?_eq_some_iff_append.2 ⟨hp, before, after, split, fun j hj => ?_⟩
  have inList : j ∈ priorityList n s := split ▸ List.mem_append_left _ hj
  obtain ⟨-, -, across⟩ := List.pairwise_append.1 ordered
  have higher : outranks s j k := across j hj k List.mem_cons_self
  rw [first j (mem_priorityList.1 inList) higher]
  rfl

/-! ## The end of an interrupt service (R711, R933) -/

theorem getLsbD_and_not_bitAt (x : BitVec 16) (k j : Nat) :
    (x &&& ~~~(bitAt k)).getLsbD j = if j = k then false else x.getLsbD j := by
  rw [BitVec.getLsbD_and, BitVec.getLsbD_not, bitAt, ← BitVec.twoPow_eq, BitVec.getLsbD_twoPow]
  by_cases inWord : j < 16
  · by_cases same : j = k
    · simp [same, same ▸ inWord]
    · simp [same, inWord, Ne.symm same]
  · simp [BitVec.getLsbD_of_ge x j (Nat.le_of_not_lt inWord)]

theorem retiPulse_eq (s : State) :
    retiPulse s = { s with ius := (retiPulse s).ius, busLog := .retiTran :: s.busLog } := by
  unfold retiPulse
  cases s.cfg.version with
  | cpu => rfl
  | mpu => dsimp only; split <;> rfl

theorem retiPulse_ius_cpu {s : State} (h : s.cfg.version = .cpu) : (retiPulse s).ius = s.ius := by
  simp only [retiPulse, h, State.emit]

theorem retiPulse_ius_mpu {s : State} {k : Nat} (h : s.cfg.version = .mpu)
    (found : (priorityList 16 s).find? (fun k => s.ius.getLsbD k) = some k) :
    (retiPulse s).ius = s.ius &&& ~~~(bitAt k) := by
  simp only [retiPulse, h, found]

theorem retiPulse_ius_zero {s : State} (h : s.ius = 0) : (retiPulse s).ius = 0 := by
  unfold retiPulse
  split
  · exact h
  · split
    · rw [h]; exact BitVec.zero_and
    · exact h

/-! ## Returns (R709 to R712) -/

theorem frame_returnFrom (s : State) : Frame s (returnFrom s) { s with sp := s.sp + 2, pc := wordAt s s.sp } :=
  ⟨rfl, fun _ => rfl⟩

theorem frame_retiPulse_returnFrom (s : State) :
    let t := retiPulse (returnFrom s)
    Frame s t
      { s with sp := s.sp + 2, pc := wordAt s s.sp, ius := t.ius, busLog := .retiTran :: s.busLog } :=
  ⟨retiPulse_eq (returnFrom s), fun pa => by rw [retiPulse_mem]; rfl⟩

/-- Settles O35: the four are `returnFrom`, which leaves the interrupt controller to RETI's pulse. -/
theorem returnsPopPc : Obligations.ReturnsPopPc := by
  intro s back
  refine ⟨⟨_, rfl, frame_returnFrom s⟩, fun _ => runs_of_cond rfl (frame_returnFrom s) (frame_setPc (s.pc + 1) s),
    ⟨_, rfl, rfl, fun _ => rfl⟩, _, rfl, frame_retiPulse_returnFrom s, retiPulse_ius_cpu (s := returnFrom s),
    retiPulse_ius_zero (s := returnFrom s), ?_⟩
  intro mpu k hk under highest j
  have found := find?_priorityList (p := fun k => s.ius.getLsbD k) hk under highest
  rw [retiPulse_ius_mpu (s := returnFrom s) mpu found]
  exact getLsbD_and_not_bitAt s.ius k j

end Sys2Proof.Proofs.Control
end

section
/-! PROOFS. Input and output (46_io.md): O36 to O40. -/

namespace Sys2Proof.Proofs.InputOutput

open Sys2Proof Sys2Proof.Machine Sys2Proof.Claims Sys2Proof.Proofs.Block

-- One theorem at a time, as above.
set_option Elab.async false

/-! ## Ports (R201, R779, R780) -/

theorem portZero_eq_ofNat (n : Byte) : portZero n = BitVec.ofNat 16 n.toNat := by
  apply BitVec.eq_of_toNat_eq
  simp only [portZero, mk16, RotateBit.toNat_append_eq_add, BitVec.toNat_ofNat]
  omega

theorem portBlockOut_eq (s : State) :
    portBlockOut s = (if s.cfg.blockOutB = .before then s.reg.b else s.reg.b - 1) ++ s.reg.c := by
  unfold portBlockOut
  cases s.cfg.blockOutB <;> rfl

theorem portOtim_eq (s : State) :
    portOtim s = (if s.cfg.otxmHigh = .zero then 0 else s.reg.b) ++ s.reg.c := by
  unfold portOtim
  cases s.cfg.otxmHigh <;> rfl

/-! ## Single outputs (R763 to R765) -/

/-- Settles O37: each output is one event of the bus log, after PC has moved. -/
theorem outputsWritePort : Obligations.OutputsWritePort := fun s =>
  ⟨fun _ => ⟨_, rfl, rfl, fun _ => rfl⟩, fun _ => ⟨_, rfl, rfl, fun _ => rfl⟩,
    fun n r => ⟨_, rfl, congrArg (fun port => ioWrite port (getR r s) (advance 3 s)) (portZero_eq_ofNat n),
      fun _ => rfl⟩⟩

/-! ## One I/O read (R220; log 8) -/

/-- The transaction reaches the announced bytes, the bus log and the index of the next free value only. -/
theorem ioReadDone_writes (port : Word) (s : State) :
    ∃ ioIn busLog free, ioReadDone port s = { s with ioIn := ioIn, busLog := busLog, free := free } := by
  unfold ioReadDone
  split <;> exact ⟨_, _, _, rfl⟩

theorem input_ioReadDone (port : Word) (s : State) : Input s (ioReadDone port s) port (ioAnswer s) := by
  refine ⟨ioReadDone_log port s, ?_⟩
  unfold ioReadDone ioAnswer
  split <;> simp [*]

/-! ## Single inputs (R760 to R762, R778) -/

/-- An instruction of `k` bytes that reads a port and writes registers of the bank: the frame of O36. -/
def InputFrame (k : Word) (s t : State) : Prop :=
  Frame s t { s with reg := t.reg, pc := s.pc + k, ioIn := t.ioIn, busLog := t.busLog, free := t.free }

theorem onlyBytes_setR (r : R8) (v : Byte) (s : State) : OnlyBytes [r] s (setR r v s) :=
  ⟨fun q hq => getR_setR_ne r q v s fun h => hq (h ▸ List.mem_singleton_self r), setR_ix r v s, setR_iy r v s,
    setR_sp r v s⟩

theorem onlyBytes_writeFlags {rs : List R8} {s t : State} (h : OnlyBytes rs s t) (f : Flags) :
    OnlyBytes rs s (writeFlags f t) := by
  obtain ⟨bytes, ix, iy, sp⟩ := h
  exact ⟨fun q hq => (Arith8.getR_writeFlags q f t).trans (bytes q hq), ix, iy, sp⟩

/-- IN A,(n) (R760). -/
theorem inputAcc_spec (port k : Word) (s : State) :
    let t := setR .a (ioAnswer s) (ioReadDone port (advance k s))
    InputFrame k s t ∧ OnlyBytes [.a] s t ∧ Input s t port t.reg.a ∧ t.reg.f = s.reg.f := by
  have read := input_ioReadDone port (advance k s)
  obtain ⟨ioIn, busLog, free, done⟩ := ioReadDone_writes port (advance k s)
  dsimp only
  rw [done] at read ⊢
  exact ⟨⟨rfl, fun _ => rfl⟩, onlyBytes_setR .a _ _, read, rfl⟩

/-- IN r,(C) and IN0 (R761, R762). -/
theorem inputReg_spec (r : R8) (port k : Word) (s : State) :
    let t := inputReg r port (advance k s)
    InputFrame k s t ∧ OnlyBytes [r] s t ∧ Input s t port (getR r t) ∧
      ResultFlags s t (getR r t) false false s.reg.f.c := by
  have read := input_ioReadDone port (advance k s)
  obtain ⟨ioIn, busLog, free, done⟩ := ioReadDone_writes port (advance k s)
  dsimp only [inputReg]
  rw [done] at read ⊢
  rw [Arith8.getR_writeFlags, getR_setR]
  refine ⟨⟨?_, fun pa => ?_⟩, onlyBytes_writeFlags (onlyBytes_setR r _ _) _, ?_, ?_⟩
  · cases r <;> rfl
  · rw [writeFlags_mem, setR_mem, advance_mem]
  · cases r <;> exact read
  · exact Arith8.resultFlags_szp (sixFlags_writeFlags (setR_cfg r _ _) (setR_flags r _ _) _)

/-- TSTIO (R778). -/
theorem inputTest_spec (port n : Byte) (k : Word) (s : State) :
    let t := writeFlags (flagsAnd (ioAnswer s &&& n) s.reg.f) (ioReadDone (portZero port) (advance k s))
    InputFrame k s t ∧ OnlyBytes [] s t ∧
      ∃ v, Input s t (BitVec.ofNat 16 port.toNat) v ∧ ResultFlags s t (v &&& n) true false false := by
  rw [← portZero_eq_ofNat]
  have read := input_ioReadDone (portZero port) (advance k s)
  obtain ⟨ioIn, busLog, free, done⟩ := ioReadDone_writes (portZero port) (advance k s)
  dsimp only
  rw [done] at read ⊢
  exact ⟨⟨rfl, fun _ => rfl⟩, ⟨fun q _ => Arith8.getR_writeFlags q _ _, rfl, rfl, rfl⟩, _, read,
    Arith8.resultFlags_szp (sixFlags_writeFlags rfl rfl (flagsAnd (ioAnswer s &&& n) s.reg.f))⟩

/-- Settles O36: every form is one I/O read, then at most a register and the flags. -/
theorem inputsReadPort : Obligations.InputsReadPort := fun s =>
  ⟨fun n => ⟨_, rfl, inputAcc_spec (portAn n s) 2 s⟩, fun r => ⟨_, rfl, inputReg_spec r (regBc s) 2 s⟩,
    fun r n => portZero_eq_ofNat n ▸ ⟨_, rfl, inputReg_spec r (portZero n) 3 s⟩,
    fun n => ⟨_, rfl, inputTest_spec s.reg.c n 3 s⟩⟩

/-! ## Block forms: one iteration, and the two ways it ends (R129, R458) -/

/-- `u` is `s` after one iteration that counts B down and settles neither PC nor the held instruction; `P` holds
wherever those two are left. -/
structure CountsB (s u : State) (P : State → Prop) : Prop where
  holds : ∀ pc repeating, P { u with pc := pc, repeating := repeating }
  pc : u.pc = s.pc
  repeating : u.repeating = s.repeating
  b : u.reg.b = s.reg.b - 1

theorem CountsB.of_settled {s u t : State} {P : State → Prop} (h : CountsB s u P) (ht : Settled u t) : P t :=
  ht ▸ h.holds t.pc t.repeating

theorem CountsB.once {s u : State} {P : State → Prop} (h : CountsB s u P) :
    P (advance 2 u) ∧ Once s (advance 2 u) :=
  ⟨h.of_settled (settled_advance 2 u), once_advance h.pc h.repeating⟩

/-- The count tested is the one the iteration leaves in B. -/
theorem CountsB.repeats {s u : State} {P : State → Prop} (h : CountsB s u P) (i : Instr) :
    let t := finishIteration (ioAgain s) i u
    P t ∧ Repeats i (t.reg.b ≠ 0) s t := by
  have ht := settled_finishIteration (ioAgain s) i u
  have left : (finishIteration (ioAgain s) i u).reg.b = s.reg.b - 1 := by rw [ht]; exact h.b
  refine ⟨h.of_settled ht, repeats_finishIteration i h.pc ?_⟩
  rw [left]
  exact bne_iff_ne

/-! ## The registers and flags of a block form -/

theorem getPair_moveHl (up : Bool) (s : State) : getPair .hl (moveHl up s) = getPair .hl s + delta up :=
  (mk16_hi_lo _).trans (stepWord_eq_add up (regHl s))

theorem getR_moveHl (up : Bool) (s : State) {q : R8} (h : q ∉ [R8.h, .l]) : getR q (moveHl up s) = getR q s :=
  getR_setPair (p := .hl) h _ s

/-- B, HL and F after INI, OUTI and their kin, with `d` added to HL (R766, R770, R779). -/
def BlockIoCounts (d : Word) (s t : State) : Prop :=
  (∀ q, q ∉ [R8.b, .h, .l] → getR q t = getR q s) ∧ t.reg.b = s.reg.b - 1 ∧ getPair .hl t = getPair .hl s + d ∧
    SixFlags s t s.reg.f.s (decide (t.reg.b = 0)) s.reg.f.h s.reg.f.pv true s.reg.f.c

/-- The end both directions share, whatever the transfer left in `u`. -/
theorem blockIoCounts {s u : State} (hreg : u.reg = s.reg) (hcfg : u.cfg = s.cfg) (up : Bool) :
    BlockIoCounts (delta up) s
      (writeFlags (flagsBlockIo (s.reg.b - 1) s.reg.f) (moveHl up (setR .b (s.reg.b - 1) u))) := by
  refine ⟨fun q hq => ?_, rfl, ?_, sixFlags_writeFlags hcfg (congrArg Bank.f hreg) (flagsBlockIo _ s.reg.f)⟩
  · rw [List.mem_cons, not_or] at hq
    obtain ⟨notB, notHl⟩ := hq
    rw [Arith8.getR_writeFlags, getR_moveHl up _ notHl, getR_setR_ne _ _ _ _ (Ne.symm notB)]
    unfold getR
    rw [hreg]
  · rw [Arith16.getPair_writeFlags (by decide), getPair_moveHl]
    show mk16 u.reg.h u.reg.l + delta up = mk16 s.reg.h s.reg.l + delta up
    rw [hreg]

/-! ## Block input (R766 to R769) -/

/-- One iteration of block input, as O38 states it. -/
def InputIteration (d : Word) (s t : State) : Prop :=
  (∃ v, Input s t (getPair .bc s) v ∧ Stores .data s t [(getPair .hl s, v)]) ∧
    StoreFrame t
      { s with
        reg := t.reg, pc := t.pc, repeating := t.repeating, free := t.free
        ioIn := t.ioIn, busLog := t.busLog } ∧
    BlockIoCounts d s t

theorem sameMap_ioReadDone (port : Word) (s : State) : SameMap s (ioReadDone port s) :=
  sameMap_of_eq (ioReadDone_cfg port s) (ioReadDone_mmu port s) (ioReadDone_pins port s)

theorem stores_ioReadDone (port : Word) (s : State) : Stores .data s (ioReadDone port s) [] :=
  stores_congr (stores_nil .data s) (ioReadDone_mem port s) (ioReadDone_sys port s) (ioReadDone_wpPending port s)
    (ioReadDone_fatal port s)

/-- The byte read is the byte stored, at HL before it moves. -/
theorem inputStep_transfers (up : Bool) (s : State) :
    let t := inputStep up s
    Input s t (getPair .bc s) (ioAnswer s) ∧ Stores .data s t [(getPair .hl s, ioAnswer s)] ∧
      StoreFrame t { s with reg := t.reg, free := t.free, ioIn := t.ioIn, busLog := t.busLog } := by
  have read := input_ioReadDone (regBc s) s
  have stored := stores_snoc (sameMap_ioReadDone (regBc s) s) (stores_ioReadDone (regBc s) s) (regHl s) (ioAnswer s)
  obtain ⟨ioIn, busLog, free, done⟩ := ioReadDone_writes (regBc s) s
  rw [done] at read stored
  dsimp only [inputStep]
  rw [done]
  rw [writeMem_spec] at stored ⊢
  exact ⟨read, stored, rfl⟩

theorem inputStep_counts (up : Bool) (s : State) : CountsB s (inputStep up s) (InputIteration (delta up) s) where
  holds pc repeating := by
    obtain ⟨read, stored, frame⟩ := inputStep_transfers up s
    obtain ⟨mem, sys, wp, fatal, eq⟩ := storeFrame_iff.1 frame
    have counts := blockIoCounts (s := s) (u := writeMem .data (regHl s) (ioAnswer s) (ioReadDone (regBc s) s))
      (by simp) (by simp) up
    exact ⟨⟨ioAnswer s, read, stored⟩, by rw [eq]; rfl, counts⟩
  pc := by simp [inputStep, moveHl]
  repeating := by simp [inputStep, moveHl]
  b := rfl

/-- Settles O38: the four forms are one iteration, upwards or downwards, once or with the repeat test. -/
theorem blockInputIterates : Obligations.BlockInputIterates := fun s =>
  ⟨⟨_, rfl, (inputStep_counts true s).once⟩, ⟨_, rfl, (inputStep_counts false s).once⟩,
    ⟨_, rfl, (inputStep_counts true s).repeats .inir⟩, ⟨_, rfl, (inputStep_counts false s).repeats .indr⟩⟩

/-! ## Block output (R770 to R773, R779) -/

/-- A block form that makes one I/O write and leaves memory alone: the frame of O39 and O40. -/
def OutputFrame (port : Word) (s t : State) : Prop :=
  Frame s t
    { s with
      reg := t.reg, pc := t.pc, repeating := t.repeating, free := t.free
      busLog := .ioWrite port (readMem s (getPair .hl s)) :: s.busLog }

theorem outputStep_counts {s : State} {port : Word} (hport : portBlockOut s = port) (up : Bool) :
    CountsB s (outputStep up s) fun t => OutputFrame port s t ∧ BlockIoCounts (delta up) s t where
  holds _ _ := ⟨⟨hport ▸ rfl, fun _ => rfl⟩, blockIoCounts (u := ioWrite (portBlockOut s) (srcM s) s) rfl rfl up⟩
  pc := rfl
  repeating := rfl
  b := rfl

/-- Settles O39: as O38, with one I/O write of the byte at HL. -/
theorem blockOutputIterates : Obligations.BlockOutputIterates := by
  intro s port iterates
  have step (up : Bool) : CountsB s (outputStep up s) (iterates (delta up)) :=
    outputStep_counts (portBlockOut_eq s) up
  exact ⟨⟨_, rfl, (step true).once⟩, ⟨_, rfl, (step false).once⟩, ⟨_, rfl, (step true).repeats .otir⟩,
    ⟨_, rfl, (step false).repeats .otdr⟩⟩

/-! ## OTIM and its kin (R774 to R777, R780) -/

theorem sub8_one_res (b : Byte) : (sub8 b 1#8 false).res = b - 1#8 := by
  apply BitVec.eq_of_toNat_eq
  have diff := Block.sub8_res_toNat b 1#8
  rw [BitVec.toNat_sub]
  simp only [BitVec.toNat_ofNat] at diff ⊢
  omega

/-- The decrement of B borrows from its high digit exactly where its low digit is 0 (R774). -/
theorem sub8_one_half (b : Byte) : (sub8 b 1#8 false).h = decide (b.toNat % 16 = 0) := by
  rw [Block.sub8_half, decide_eq_decide]
  exact Nat.lt_one_iff

theorem stepPort_eq_add (up : Bool) (c : Byte) :
    (if up then c + 1#8 else c - 1#8) = c + (delta up).setWidth 8 := by
  cases up
  · exact BitVec.sub_eq_add_neg c 1
  · rfl

/-- B, C, HL and F after OTIM and its kin, with `d` added to C and HL (R774). -/
def OtimCounts (d : Word) (s t : State) : Prop :=
  (∀ q, q ∉ [R8.b, .c, .h, .l] → getR q t = getR q s) ∧ t.reg.b = s.reg.b - 1 ∧
    t.reg.c = s.reg.c + d.setWidth 8 ∧ getPair .hl t = getPair .hl s + d ∧
    ResultFlags s t t.reg.b (decide (s.reg.b.toNat % 16 = 0))
      (decide (128 ≤ (readMem s (getPair .hl s)).toNat)) s.reg.f.c

theorem otimStep_b (up : Bool) (s : State) : (otimStep up s).reg.b = s.reg.b - 1 := sub8_one_res s.reg.b

theorem otimStep_flags (up : Bool) (s : State) :
    let t := otimStep up s
    ResultFlags s t t.reg.b (decide (s.reg.b.toNat % 16 = 0))
      (decide (128 ≤ (readMem s (getPair .hl s)).toNat)) s.reg.f.c := by
  have sign : (srcM s).msb = decide (128 ≤ (readMem s (getPair .hl s)).toNat) := BitVec.msb_eq_decide (srcM s)
  dsimp only
  rw [← sub8_one_half, ← sign]
  exact Arith8.resultFlags_szp (sixFlags_writeFlags rfl rfl (flagsOtim (sub8 s.reg.b 1#8 false) (srcM s) s.reg.f))

theorem otimStep_registers (up : Bool) (s : State) : OtimCounts (delta up) s (otimStep up s) := by
  refine ⟨fun q hq => ?_, otimStep_b up s, stepPort_eq_add up s.reg.c, getPair_moveHl up _, otimStep_flags up s⟩
  rw [List.mem_cons, List.mem_cons, not_or, not_or] at hq
  obtain ⟨notB, notC, notHl⟩ := hq
  rw [otimStep, Arith8.getR_writeFlags, getR_moveHl up _ notHl, getR_setR_ne _ _ _ _ (Ne.symm notC),
    getR_setR_ne _ _ _ _ (Ne.symm notB)]
  rfl

theorem otimStep_counts {s : State} {port : Word} (hport : portOtim s = port) (up : Bool) :
    CountsB s (otimStep up s) fun t => OutputFrame port s t ∧ OtimCounts (delta up) s t where
  holds _ _ := ⟨⟨hport ▸ rfl, fun _ => rfl⟩, otimStep_registers up s⟩
  pc := rfl
  repeating := rfl
  b := otimStep_b up s

/-- Settles O40: as O39, with the port register counted along with HL. -/
theorem otimFamilyIterates : Obligations.OtimFamilyIterates := by
  intro s v port iterates
  have step (up : Bool) : CountsB s (otimStep up s) (iterates (delta up)) :=
    otimStep_counts (portOtim_eq s) up
  exact ⟨⟨_, rfl, (step true).once⟩, ⟨_, rfl, (step false).once⟩, ⟨_, rfl, (step true).repeats .otimr⟩,
    ⟨_, rfl, (step false).repeats .otdmr⟩⟩

end Sys2Proof.Proofs.InputOutput
end

section
/-! PROOFS. CPU control (47_system.md): O41. -/

namespace Sys2Proof.Proofs.CpuControl

open Sys2Proof Sys2Proof.Machine Sys2Proof.Claims

-- One theorem at a time, as above.
set_option Elab.async false

/-! ## Instructions that leave memory alone -/

theorem frame_of_mem_eq {s u : State} (mem : u.mem = s.mem) : Frame s u u :=
  ⟨rfl, fun pa => congrArg (fun m => m.get pa) mem⟩

/-- An instruction that ends in `u`, with memory as it was, has the effect `u` spells out and no other. -/
theorem runs_frame {i : Instr} {s u : State} (e : exec i s = .next u) (mem : u.mem = s.mem) :
    Runs i s fun t => Frame s t u :=
  ⟨u, e, frame_of_mem_eq mem⟩

/-! ## Halt and Sleep (R831, R832, R921) -/

theorem exec_halt_eq (s : State) :
    exec .halt s = .next { s with pc := s.pc + 1, run := .halted, haltIntEn := s.iff1 } := rfl

/-- SLP remembers the request level, the one field the statement leaves open. -/
theorem exec_slp_eq (s : State) :
    exec .slp s = .next { s with pc := s.pc + 2, run := .sleeping, intSeen := intRequest s } := rfl

/-! ## Interrupt enable and mode (R833 to R835, R1011) -/

theorem exec_di_eq (s : State) : exec .di s = .next { s with pc := s.pc + 1, iff1 := false, iff2 := false } := rfl

theorem exec_ei_eq (s : State) :
    exec .ei s = .next
      { s with
        pc := s.pc + 1, iff1 := true, iff2 := true
        eiShadow := decide (s.cfg.eiShadow = .oneInstruction) } := rfl

/-- Each `IM` moves PC past its two bytes and writes the mode its own word names. -/
theorem exec_im_eq (s : State) :
    exec .im0 s = .next { s with pc := s.pc + 2, im := .im0 } ∧
      exec .im1 s = .next { s with pc := s.pc + 2, im := .im1 } ∧
      exec .im2 s = .next { s with pc := s.pc + 2, im := .im2 } := ⟨rfl, rfl, rfl⟩

/-- Settles O41: each instruction writes the fields its equation names, none of them memory; for SLP the level
remembered is read back from the state after. -/
theorem cpuControlEffects : Obligations.CpuControlEffects := by
  intro s
  obtain ⟨im0, im1, im2⟩ := exec_im_eq s
  have nop : exec .nop s = .next { s with pc := s.pc + 1 } := rfl
  exact ⟨runs_frame nop rfl, runs_frame (exec_halt_eq s) rfl, ⟨_, exec_slp_eq s, frame_of_mem_eq rfl⟩,
    runs_frame (exec_di_eq s) rfl, runs_frame (exec_ei_eq s) rfl, runs_frame im0 rfl, runs_frame im1 rfl,
    runs_frame im2 rfl⟩

end Sys2Proof.Proofs.CpuControl
end

section
/-! PROOFS. The boundary of the machine, traps, acknowledges, Halt and Sleep, DMA and the watch-dog
(60_exceptions.md): O5 and O48 to O57. -/

namespace Sys2Proof.Proofs.Exceptions

open Sys2Proof Sys2Proof.Machine Sys2Proof.Claims

-- One theorem at a time, as above.
set_option Elab.async false

/-! ## A step whose action is one state -/

/-- With no input due, a step whose action becomes a state ends in that state. -/
theorem steps_of_plan {s u : State} {P : State → Prop} (idle : s.sched = []) (e : plan s = .become u) (h : P u) :
    Steps s P :=
  ⟨u, by rw [step_unscheduled s idle, machineStep, e]; rfl, h⟩

theorem steps_frame_of_plan {s u v : State} (idle : s.sched = []) (e : plan s = .become u) (same : u = v)
    (mem : u.mem = s.mem) : Steps s fun t => Frame s t v :=
  steps_of_plan idle e ⟨same, fun pa => congrArg (fun m => m.get pa) mem⟩

/-! ## The fetch (R901, R218) -/

theorem prefetched_of_atFetch {s : State} (h : Safety.AtFetch s) : s.prefetched = none := by
  obtain ⟨-, -, -, -, -, -, -, -, -, -, -, empty, -, -⟩ := h
  exact empty

/-- Settles O5: the boundary goes on to the fetch, and without `en_prftch` the fetch leaves the empty buffer as it
is. -/
theorem stepRunsDecodedInstruction : Obligations.StepRunsDecodedInstruction := by
  intro s i ⟨atFetch, allowed⟩ _ decoded
  have empty := prefetched_of_atFetch atFetch
  have runs : step s = exec i { s with prefetched := prefetchedAfter i s } := by
    rw [step_atFetch s atFetch, fetchPlan_instr s i allowed empty decoded]
    rfl
  refine ⟨runs, fun off => ?_⟩
  rw [runs, prefetchedAfter_off i s off, ← empty]

/-- Settles O54: the shadow goes straight to the fetch; the requests it passes over stay in the fields that hold
them. -/
theorem shadowGuaranteesNextInstruction : Obligations.ShadowGuaranteesNextInstruction := by
  intro s i idle alive running noTrap shadowed fresh empty allowed decoded
  have next : plan s = fetchPlan
      { s with shadow := false, eiShadow := false, nmiLatch := s.nmiLatch || s.pins.nmiReq } := by
    rw [plan_running s alive running]
    simp [boundary, trapDue, nextPlan, sampleNmi, noTrap, shadowed, fresh]
  rw [step_unscheduled s idle]
  exact congrArg (Plan.result exec) (next.trans (fetchPlan_instr _ i allowed empty decoded))

/-! ## Taking an exception (R902, R903, R904) -/

theorem entered_enterException (saved target : Word) (u : State) :
    Entered u (enterException saved target u) saved target := by
  obtain ⟨pushed, frame⟩ := Control.callTo_spec saved target (dropFetch u)
  exact ⟨pushed, rfl, frame⟩

theorem enterException_entered {u v : State} (e : u = v) (saved target : Word) :
    Entered v (enterException saved target u) saved target :=
  e ▸ entered_enterException saved target u

/-- What an illegal opcode leaves before its push: the record that the MPU alone makes, and the acknowledge. -/
theorem illegalEntry_eq (s : State) (e : BusEvent) (y : SysStat) :
    (illegalIffs (if s.isMpu then { s with sys := y } else s)).emit e =
      { illegalEntry s e with sys := if s.cfg.version = .mpu then y else s.sys } := by
  cases hv : s.cfg.version <;> cases hi : s.cfg.illegalIff <;>
    simp [illegalIffs, illegalEntry, State.isMpu, State.emit, hv, hi]

theorem illegal2_illegalTrap2 (s : State) : Illegal2 s (illegalTrap2 s) := by
  have saved : (if s.cfg.illegalStackedPc = .firstByte then s.pc else s.pc + 1) =
      match s.cfg.illegalStackedPc with
      | .firstByte => s.pc
      | .secondByte => s.pc + 1#16 := by
    cases s.cfg.illegalStackedPc <;> rfl
  unfold Illegal2
  rw [saved]
  exact enterException_entered (illegalEntry_eq s .illegalAck2 { trapAt s s.pc with ill2Trap := true }) _ _

theorem illegal3_illegalTrap3 (s : State) : Illegal3 s (illegalTrap3 s) :=
  enterException_entered (illegalEntry_eq s .illegalAck3 { trapAt s (s.pc + 2) with ill3Trap := true }) _ _

/-- The fetch of an illegal opcode, with the prefetch buffer empty. -/
theorem fetchPlan_illegal {s : State} (allowed : execInhibited s s.pc = false) (empty : s.prefetched = none) :
    let d := decode (readMem s s.pc) (readMem s (s.pc + 1)) (readMem s (s.pc + 2)) (readMem s (s.pc + 3))
    (d = .illegal2 → fetchPlan s = .become (illegalTrap2 s)) ∧
      (d = .illegal3 → fetchPlan s = .become (illegalTrap3 s)) := by
  have bytes : fetched s =
      decode (readMem s s.pc) (readMem s (s.pc + 1)) (readMem s (s.pc + 2)) (readMem s (s.pc + 3)) := by
    rw [fetched, firstByte_empty s empty]
    rfl
  rw [fetchPlan, allowed, if_neg Bool.false_ne_true, bytes, afterFetch_empty s empty]
  exact ⟨fun illegal => by rw [illegal], fun illegal => by rw [illegal]⟩

/-- Settles O48: the fetch becomes the trap, and the trap is what R903 and R904 say of it. -/
theorem illegalOpcodeTraps : Obligations.IllegalOpcodeTraps := by
  intro s ⟨atFetch, allowed⟩
  obtain ⟨two, three⟩ := fetchPlan_illegal allowed (prefetched_of_atFetch atFetch)
  have next := plan_atFetch s atFetch
  obtain ⟨idle, -⟩ := atFetch
  exact ⟨fun d => steps_of_plan idle (next.trans (two d)) (illegal2_illegalTrap2 s),
    fun d => steps_of_plan idle (next.trans (three d)) (illegal3_illegalTrap3 s)⟩

/-! ## The execute-inhibit trap (R905, R909) -/

theorem page_zero_iff (la : Word) : la.extractLsb' 12 4 = 0#4 ↔ la.toNat < 4096 := by
  have := la.isLt
  rw [BitVec.toNat_eq, BitVec.extractLsb'_toNat, Nat.shiftRight_eq_div_pow, BitVec.toNat_zero]
  omega

theorem executeInhibitTrap_page_zero {s : State} (h : s.pc.toNat < 4096) :
    executeInhibitTrap s =
      { s with sys := { trapAt s s.pc with execTrap := true, fatalSeen := true }, fatal := true } := by
  rw [executeInhibitTrap, if_pos ((page_zero_iff s.pc).2 h)]
  rfl

theorem executeInhibitTrap_elsewhere {s : State} (h : 4096 ≤ s.pc.toNat) :
    executeInhibitTrap s =
      enterException (s.pc + 1) 0 { s with sys := { trapAt s s.pc with execTrap := true } } := by
  rw [executeInhibitTrap, if_neg (mt (page_zero_iff s.pc).1 (Nat.not_lt.2 h))]
  rfl

/-- Settles O49: the fetch looks at `exec_inh` before anything else. -/
theorem executeInhibitTraps : Obligations.ExecuteInhibitTraps := by
  intro s atFetch inhibited
  have next : plan s = .become (executeInhibitTrap s) := by
    rw [plan_atFetch s atFetch, fetchPlan, inhibited, if_pos rfl,
      afterFetch_empty s (prefetched_of_atFetch atFetch)]
  obtain ⟨idle, -⟩ := atFetch
  refine ⟨fun elsewhere => ?_, fun pageZero => ?_⟩
  · rw [executeInhibitTrap_elsewhere elsewhere] at next
    exact steps_of_plan idle next (entered_enterException _ _ _)
  · rw [executeInhibitTrap_page_zero pageZero] at next
    exact steps_frame_of_plan idle next rfl rfl

/-! ## The write-protect trap (R907, R924) -/

theorem trapDue_of_pending {s : State} (pending : s.wpPending = true)
    (h : s.repeating = none ∨ s.cfg.wrprotRepeat = .afterIteration) : trapDue s = true := by
  rcases h with h | h <;> simp [trapDue, pending, h]

/-- Settles O50: a boundary looks at the pending trap before the shadow and the requests. -/
theorem writeProtectTrapTaken : Obligations.WriteProtectTrapTaken := by
  intro s idle alive running pending fetches
  have due : trapDue (sampleNmi s) = true := trapDue_of_pending pending fetches
  have next : plan s = .become (writeProtectTrap (sampleNmi s)) := by
    rw [plan_running s alive running, boundary, if_pos due]
  exact steps_of_plan idle next (entered_enterException _ _ _)

/-! ## The fatal reset (R909, U9) -/

theorem maybePoke_eq (la : Word) (v : Byte) (s : State) :
    maybePoke la v s =
      { s with
        mem :=
          if !writeInhibited s la && Config.freeBit s.free then s.mem.set (Machine.translate s la).toNat v else s.mem
        free := s.free + 1 } := by
  unfold maybePoke
  dsimp only
  split <;> rfl

theorem sameMap_maybePoke (la : Word) (v : Byte) (s : State) : SameMap s (maybePoke la v s) := by
  rw [maybePoke_eq]
  exact sameMap_of_eq rfl rfl rfl

/-- U9: a byte changes only to the one the push writes, at its own address, and never where `wr_inh` is active. -/
theorem maybePoke_get (la : Word) (v : Byte) (s : State) (pa : Nat) :
    (maybePoke la v s).mem.get pa = s.mem.get pa ∨
      (writeInhibited s la = false ∧ pa = (Machine.translate s la).toNat ∧ (maybePoke la v s).mem.get pa = v) := by
  rw [maybePoke_eq]
  dsimp only
  split
  case isFalse => exact .inl rfl
  case isTrue written =>
    have allowed : writeInhibited s la = false := by simpa using (Bool.and_eq_true_iff.1 written).1
    rw [Memory.get_set]
    split
    case isTrue here => exact .inr ⟨allowed, here, rfl⟩
    case isFalse => exact .inl rfl

theorem fatalReset_eq (s : State) :
    fatalReset s =
      { afterReset s with
        mem := (fatalReset s).mem, free := (fatalReset s).free, busLog := .resetOut :: s.busLog } := by
  simp only [fatalReset, mpuReset, maybePoke_eq]
  rfl

/-- U9: the push's two bytes are each written or not, the higher address first. -/
theorem fatalReset_get (s : State) (pa : Nat) :
    (fatalReset s).mem.get pa = s.mem.get pa ∨
      (writeInhibited s (s.sp - 1) = false ∧ pa = (Machine.translate s (s.sp - 1)).toNat ∧
        (fatalReset s).mem.get pa = high (s.pc + 1)) ∨
      (writeInhibited s (s.sp - 2) = false ∧ pa = (Machine.translate s (s.sp - 2)).toNat ∧
        (fatalReset s).mem.get pa = low (s.pc + 1)) := by
  have upper := maybePoke_get (s.sp - 1) (high (s.pc + 1)) s pa
  have lower := maybePoke_get (s.sp - 2) (low (s.pc + 1)) (maybePoke (s.sp - 1) (high (s.pc + 1)) s) pa
  obtain ⟨address, inhibit⟩ := sameMap_maybePoke (s.sp - 1) (high (s.pc + 1)) s
  rw [address, inhibit] at lower
  rcases lower with kept | written
  · rcases upper with kept' | ⟨allowed, here, value⟩
    · exact .inl (kept.trans kept')
    · exact .inr (.inl ⟨allowed, here, kept.trans value⟩)
  · exact .inr (.inr written)

/-- Settles O51: the latch comes before the run state. -/
theorem fatalErrorResets : Obligations.FatalErrorResets := fun s idle latched =>
  steps_of_plan idle (plan_fatal s latched) ⟨fatalReset_eq (sampleNmi s), fatalReset_get (sampleNmi s)⟩

/-! ## What is taken in every run state (R910, R912, R913, R923) -/

section

variable {s : State}

/-- With no fatal error, trap or shadow before it, a DMA request is taken in every run state. -/
theorem plan_dmaGrant (alive : s.fatal = false) (noTrap : s.wpPending = false) (noShadow : s.shadow = false)
    (requested : dmaRequest s = true) : plan s = .become (dmaGrant (sampleNmi s)) := by
  have requested' : dmaRequest (sampleNmi s) = true := requested
  cases run : s.run with
  | running =>
    rw [plan_running s alive run, boundary_samples (sampleNmi s) noTrap noShadow, sampleRequests,
      if_pos requested']
  | halted => rw [plan_halted s alive run, haltCycle, if_pos requested']
  | sleeping => rw [plan_sleeping s alive run, sleepCycle, if_pos requested']

variable (alive : s.fatal = false) (noTrap : s.wpPending = false) (noShadow : s.shadow = false)
  (noRequest : dmaRequest s = false) (onBus : s.dma.ack = false) (notCut : s.dma.cut = false)

include alive noTrap noShadow noRequest onBus notCut

/-- With no DMA before it either, so is NMI, whatever IFF1 is. -/
theorem plan_nmiAck (requested : s.nmiLatch = true ∨ s.pins.nmiReq = true) :
    plan s = .become (nmiAck (sampleNmi s)) := by
  have noRequest' : ¬ dmaRequest (sampleNmi s) = true := Bool.eq_false_iff.1 noRequest
  have released : dmaRelease (sampleNmi s) = sampleNmi s := dmaRelease_idle _ onBus notCut
  have latched : (sampleNmi s).nmiLatch = true := by simpa [sampleNmi] using requested
  cases run : s.run with
  | running =>
    rw [plan_running s alive run, boundary_samples (sampleNmi s) noTrap noShadow, sampleRequests,
      if_neg noRequest', released]
    exact if_pos latched
  | halted =>
    rw [plan_halted s alive run, haltCycle, if_neg noRequest', released]
    exact congrArg Plan.become (if_pos latched)
  | sleeping =>
    rw [plan_sleeping s alive run, sleepCycle, if_neg noRequest', released]
    exact congrArg Plan.become (if_pos latched)

/-- With no NMI before it either, so is an enabled maskable request, but at the boundary after EI. -/
theorem plan_intAck (noNmi : s.nmiLatch = false) (noNmiReq : s.pins.nmiReq = false) (noDelay : s.eiShadow = false)
    (enabled : if s.run = .halted then s.haltIntEn = true else s.iff1 = true) (requested : intRequest s = true) :
    plan s = .become (intAck s) := by
  have noRequest' : ¬ dmaRequest s = true := Bool.eq_false_iff.1 noRequest
  have released : dmaRelease s = s := dmaRelease_idle s onBus notCut
  cases run : s.run with
  | running =>
    have iff1 : s.iff1 = true := by simpa [run] using enabled
    rw [plan_running s alive run, sampleNmi_idle s noNmiReq, boundary_samples s noTrap noShadow, sampleRequests,
      if_neg noRequest', released]
    simp [noNmi, requested, iff1, noDelay]
  | halted =>
    have remembered : s.haltIntEn = true := by simpa [run] using enabled
    rw [plan_halted s alive run, sampleNmi_idle s noNmiReq, haltCycle, if_neg noRequest', released]
    simp [noNmi, requested, remembered]
  | sleeping =>
    have iff1 : s.iff1 = true := by simpa [run] using enabled
    rw [plan_sleeping s alive run, sampleNmi_idle s noNmiReq, sleepCycle, if_neg noRequest', released]
    simp [noNmi, requested, iff1]

end

/-- Settles O52: the action is the acknowledge in all three run states, and the acknowledge is one exception entered. -/
theorem nmiAcknowledged : Obligations.NmiAcknowledged :=
  fun _ idle alive noTrap noShadow noRequest onBus notCut requested =>
    steps_of_plan idle (plan_nmiAck alive noTrap noShadow noRequest onBus notCut requested)
      (entered_enterException _ _ _)

/-! ## The winning input (R932, R933) -/

theorem not_outranks_of_outranks {s : State} {j k : Nat} (h : outranks s j k) : ¬ outranks s k j := by
  unfold outranks at h ⊢
  split at h <;> omega

theorem not_outranks_self (s : State) (k : Nat) : ¬ outranks s k k := fun h => not_outranks_of_outranks h h

/-- Every other index of the list outranks `k` or is outranked by it: what the search meets first has the priority. -/
theorem find?_priorityList_iff {n k : Nat} {s : State} {p : Nat → Bool} :
    (priorityList n s).find? p = some k ↔
      k < n ∧ p k = true ∧ ∀ j, j < n → outranks s j k → p j = false := by
  refine ⟨fun found => ?_, fun ⟨hk, hp, first⟩ => Control.find?_priorityList hk hp first⟩
  have inList := Control.mem_priorityList.1 (List.mem_of_find?_eq_some found)
  obtain ⟨hp, before, after, split, none⟩ := List.find?_eq_some_iff_append.1 found
  refine ⟨inList, hp, fun j hj higher => ?_⟩
  have ordered := Control.pairwise_outranks_priorityList n s
  have place : j ∈ before ++ k :: after := split ▸ Control.mem_priorityList.2 hj
  rw [split] at ordered
  obtain ⟨-, behind, -⟩ := List.pairwise_append.1 ordered
  rcases List.mem_append.1 place with here | here
  · simpa using none j here
  · rcases List.mem_cons.1 here with same | lower
    · exact absurd higher (by rw [same]; exact not_outranks_self s k)
    · exact absurd higher (not_outranks_of_outranks (List.rel_of_pairwise_cons behind lower))

/-- An acknowledge takes the first input that is pending or under service, if it is not under service. -/
theorem intLine_eq_some_iff_find (s : State) (k : Nat) :
    intLine s = some k ↔
      (priorityList 16 s).find? (fun k => s.irq.getLsbD k || s.ius.getLsbD k) = some k ∧ s.ius.getLsbD k = false := by
  unfold intLine
  cases (priorityList 16 s).find? fun k => s.irq.getLsbD k || s.ius.getLsbD k with
  | none => simp
  | some m =>
    cases served : s.ius.getLsbD m with
    | true => simp [served]; rintro rfl; exact served
    | false => simp [served]; rintro rfl; exact served

/-- The controller's choice is the input that R932 and R933 describe. -/
theorem intLine_eq_some_iff (s : State) (k : Nat) : intLine s = some k ↔ Winner s k := by
  rw [intLine_eq_some_iff_find, find?_priorityList_iff]
  constructor
  · rintro ⟨⟨hk, busy, first⟩, idle⟩
    refine ⟨hk, by simpa [idle] using busy, ?_⟩
    rintro j hj (rfl | higher)
    · exact ⟨idle, absurd rfl⟩
    · have free := Bool.or_eq_false_iff.1 (first j hj higher)
      exact ⟨free.2, fun _ => free.1⟩
  · rintro ⟨hk, pending, first⟩
    refine ⟨⟨hk, by rw [pending, Bool.true_or], fun j hj higher => ?_⟩, (first k hk (.inl rfl)).1⟩
    obtain ⟨idle, quiet⟩ := first j hj (.inr higher)
    have other : j ≠ k := fun same => not_outranks_self s k (same ▸ higher)
    rw [quiet other, idle, Bool.or_false]

theorem intRequest_iff_winner {s : State} (mpu : s.cfg.version = .mpu) : intRequest s = true ↔ ∃ k, Winner s k := by
  simp only [intRequest, mpu, Option.isSome_iff_exists, intLine_eq_some_iff]

theorem getLsbD_or_bitAt (x : BitVec 16) {k : Nat} (hk : k < 16) (j : Nat) :
    (x ||| bitAt k).getLsbD j = (x.getLsbD j || decide (j = k)) := by
  rw [BitVec.getLsbD_or, bitAt, ← BitVec.twoPow_eq, BitVec.getLsbD_twoPow]
  by_cases same : j = k
  · simp [same, hk]
  · simp [same, Ne.symm same]

/-! ## The maskable acknowledge (R913 to R918, R934) -/

theorem restartAddr_of_vector (v : Byte) :
    restartAddr (v.extractLsb' 3 3) = BitVec.ofNat 16 (8 * (v.toNat / 8 % 8)) := by
  rw [Control.restartAddr_eq_ofNat, BitVec.extractLsb'_toNat, Nat.shiftRight_eq_div_pow]

/-- R915 to R917: the routine of each mode. -/
theorem intTarget_eq {s : State} {v : Byte} (vector : intVector s = v) :
    intTarget s =
      match s.im with
      | .im0 => BitVec.ofNat 16 (8 * (v.toNat / 8 % 8))
      | .im1 => 0x0038
      | .im2 => wordAt s (s.i ++ v) := by
  unfold intTarget
  rw [vector]
  cases s.im with
  | im0 => exact restartAddr_of_vector v
  | im1 | im2 => rfl

/-- R934: three bits of the offset, then the input's index and a 0, or all ones, in a byte of fixed bits. -/
theorem vector_bits (offset : BitVec 3) (k : Nat) (hk : k < 16) :
    offset ++ BitVec.ofNat 4 k ++ 0b0#1 = BitVec.ofNat 8 (32 * offset.toNat + 2 * k) ∧
      0b11#2 ++ offset ++ 0b111#3 = BitVec.ofNat 8 (0xC7 + 8 * offset.toNat) := by
  have := offset.isLt
  constructor
  all_goals
    apply BitVec.eq_of_toNat_eq
    simp only [RotateBit.toNat_append_eq_add, BitVec.toNat_ofNat]
    omega

theorem intVector_mpu {s : State} {k : Nat} (mpu : s.cfg.version = .mpu) (winner : Winner s k) :
    intVector s =
      if s.im = .im2 then BitVec.ofNat 8 (32 * s.pins.ivecOffset.toNat + 2 * k)
      else BitVec.ofNat 8 (0xC7 + 8 * s.pins.ivecOffset.toNat) := by
  obtain ⟨table, fixed⟩ := vector_bits s.pins.ivecOffset k winner.1
  have line : (intLine s).getD 0 = k := by rw [(intLine_eq_some_iff s k).2 winner, Option.getD_some]
  simp only [intVector, mpu, line, controllerVector]
  cases s.im with
  | im2 => exact table
  | im0 | im1 => exact fixed

theorem takeLine_cpu {s : State} (cpu : s.cfg.version = .cpu) : takeLine s = s := by
  simp only [takeLine, ackLine, cpu]

theorem takeLine_mpu {s : State} {k : Nat} (mpu : s.cfg.version = .mpu) (winner : Winner s k) :
    takeLine s = { s with irq := s.irq &&& ~~~(bitAt k), ius := s.ius ||| bitAt k } := by
  simp only [takeLine, ackLine, mpu, (intLine_eq_some_iff s k).2 winner]

/-- An acknowledge of vector byte `v`, from the controller's state after it and with the line it raised. -/
theorem intAck_entered {s u : State} {v : Byte} {line : Option Nat} (vector : intVector s = v)
    (raised : ackLine s = line) (taken : takeLine s = u) :
    IntEntered s { u with busLog := .intAck v line :: u.busLog } (intAck s) v := by
  unfold IntEntered intAck
  rw [intTarget_eq vector, vector, raised, taken]
  exact entered_enterException _ _ _

theorem plan_of_intOpen {s : State} (h : IntOpen s) (requested : intRequest s = true) :
    s.sched = [] ∧ plan s = .become (intAck s) := by
  obtain ⟨idle, alive, noTrap, noShadow, noDelay, noNmi, noNmiReq, noRequest, onBus, notCut, enabled⟩ := h
  exact ⟨idle, plan_intAck alive noTrap noShadow noRequest onBus notCut noNmi noNmiReq noDelay enabled requested⟩

/-- Settles O53: the request is the controller's choice; the acknowledge is one in both versions, with the vector, the
line and the controller's state of each. -/
theorem maskableInterruptAcknowledged : Obligations.MaskableInterruptAcknowledged := by
  intro s
  refine ⟨intRequest_iff_winner, fun isOpen cpu requested => ?_, fun isOpen mpu k winner => ?_⟩
  · have active : intRequest s = true := by simp only [intRequest, cpu, requested]
    obtain ⟨idle, next⟩ := plan_of_intOpen isOpen active
    have vector : intVector s = s.pins.ivecDataIn := by simp only [intVector, cpu]
    have raised : ackLine s = none := by simp only [ackLine, cpu]
    exact steps_of_plan idle next (intAck_entered vector raised (takeLine_cpu cpu))
  · obtain ⟨idle, next⟩ := plan_of_intOpen isOpen ((intRequest_iff_winner mpu).2 ⟨k, winner⟩)
    have raised : ackLine s = some k := by simp only [ackLine, mpu, (intLine_eq_some_iff s k).2 winner]
    have entered := intAck_entered (intVector_mpu mpu winner) raised (takeLine_mpu mpu winner)
    have controller : (intAck s).irq = s.irq &&& ~~~(bitAt k) ∧ (intAck s).ius = s.ius ||| bitAt k := by
      simp [intAck, takeLine_mpu mpu winner]
    refine steps_of_plan idle next ⟨fun j => ?_, fun j => ?_, ?_⟩
    · rw [controller.1, Control.getLsbD_and_not_bitAt]
      split <;> simp [*]
    · rw [controller.2, getLsbD_or_bitAt _ winner.1]
    · rw [controller.1, controller.2]
      exact entered

/-! ## Halt and Sleep (R921, R922) -/

section

variable {s : State} (noNmi : s.nmiLatch = false) (noRequest : dmaRequest s = false) (onBus : s.dma.ack = false)
  (notCut : s.dma.cut = false)

include noNmi noRequest onBus notCut

theorem haltCycle_ignores (ignored : intRequest s = false ∨ s.haltIntEn = false) : haltCycle s = s := by
  have refused : (intRequest s && s.haltIntEn) = false := Bool.and_eq_false_iff.2 ignored
  rw [haltCycle, noRequest, dmaRelease_idle s onBus notCut]
  simp [noNmi, refused]

theorem sleepCycle_sleeps (quiet : intRequest s = false) : sleepCycle s = { s with intSeen := false } := by
  have asleep : sleepWakes s = false := by unfold sleepWakes; split <;> simp [quiet]
  rw [sleepCycle, noRequest, dmaRelease_idle s onBus notCut]
  simp [noNmi, quiet, asleep]

theorem sleepCycle_wakes (disabled : s.iff1 = false) (level : s.cfg.sleepExit = .level)
    (requested : intRequest s = true) : sleepCycle s = { s with run := .running } := by
  have awake : sleepWakes s = true := by simp only [sleepWakes, level, requested]
  rw [sleepCycle, noRequest, dmaRelease_idle s onBus notCut]
  simp [noNmi, disabled, awake]

end

/-- Settles O55: with NMI low the cycle starts from the state itself. -/
theorem haltAndSleepCycles : Obligations.HaltAndSleepCycles := by
  intro s idle alive noNmi noNmiReq noRequest onBus notCut
  have sampled := sampleNmi_idle s noNmiReq
  have halted (run : s.run = .halted) : plan s = .become (haltCycle s) := by
    rw [plan_halted s alive run, sampled]
  have sleeping (run : s.run = .sleeping) : plan s = .become (sleepCycle s) := by
    rw [plan_sleeping s alive run, sampled]
  refine ⟨fun run ignored => ?_, fun run quiet => ?_, fun run disabled level requested => ?_⟩
  · rw [haltCycle_ignores noNmi noRequest onBus notCut ignored] at halted
    exact steps_frame_of_plan idle (halted run) rfl rfl
  · rw [sleepCycle_sleeps noNmi noRequest onBus notCut quiet] at sleeping
    exact steps_frame_of_plan idle (sleeping run) rfl rfl
  · rw [sleepCycle_wakes noNmi noRequest onBus notCut disabled level requested] at sleeping
    exact steps_frame_of_plan idle (sleeping run) rfl rfl

/-! ## The DMA grant (R923, R940, R942) -/

/-- The requester that none outranks is the only one served. -/
theorem dmaServed_getLsbD {s : State} {k : Nat} (mpu : s.cfg.version = .mpu) (hk : k < 8)
    (requested : s.pins.dmaReqBus.getLsbD k = true)
    (first : ∀ j, j < 8 → outranks s j k → s.pins.dmaReqBus.getLsbD j = false) (j : Nat) :
    (dmaServed s).getLsbD j = decide (j = k) := by
  have found := Control.find?_priorityList (p := fun k => s.pins.dmaReqBus.getLsbD k) hk requested first
  have served : dmaServed s = BitVec.twoPow 8 k := by
    simp only [dmaServed, mpu, found, BitVec.twoPow_eq]
  rw [served, BitVec.getLsbD_twoPow]
  simp [hk, eq_comm]

/-- Settles O56: the grant writes its own fields and the buffer; the sampling before it writes the NMI latch. -/
theorem dmaRequestTakesBus : Obligations.DmaRequestTakesBus :=
  fun _ idle alive noTrap noShadow requested =>
    steps_of_plan idle (plan_dmaGrant alive noTrap noShadow requested)
      ⟨⟨rfl, fun _ => rfl⟩, fun mpu _ hk asked first => dmaServed_getLsbD mpu hk asked first⟩

/-! ## The watch-dog (R945 to R948) -/

section

variable {s : State}

theorem dmaClocks_atRest (noGrant : s.dma.ack = false) (atRest : s.dma.idle = 0) (n : Nat) : dmaClocks n s = s := by
  have still : { s.dma with idle := s.dma.idle - n } = s.dma := by rw [atRest, Nat.zero_sub, ← atRest]
  rw [dmaClocks, noGrant, still]
  exact ite_self s

variable (mpu : s.cfg.version = .mpu) (noGrant : s.dma.ack = false) (atRest : s.dma.idle = 0)

include mpu noGrant atRest

/-- With the DMA modules at rest the clocks move the watch-dog with its Arm Timer, and the generator, and nothing
else. -/
theorem timers_eq (n : Nat) :
    ∃ r l f, timers n s =
      { s with
        rti := r, busLog := l, free := f
        wdt :=
          { s.wdt with
            arm := s.wdt.arm - n
            count := if s.wdt.enabled then s.wdt.count + n else s.wdt.count } } := by
  obtain ⟨r, l, f, generator⟩ : ∃ r l f, rtiClocks n s = { s with rti := r, busLog := l, free := f } :=
    ⟨_, _, _, rtiClocks_only n s⟩
  refine ⟨r, l, f, ?_⟩
  rw [timers, generator, dmaClocks_atRest (by exact noGrant) (by exact atRest), wdtClocks,
    if_neg (by simp [State.isMpu, mpu])]

/-- R946: fewer clocks than the watch-dog has left only count. -/
theorem applyClocks_within {n : Nat} (enabled : s.wdt.enabled = true)
    (within : s.wdt.count + n < wdtPeriod s.wdt.limit) :
    ∃ r l f, applyClocks n s =
      { s with
        rti := r, free := f, busLog := l
        wdt := { s.wdt with count := s.wdt.count + n, arm := s.wdt.arm - n } } := by
  have goesOn : wdtExpires n s = false := by
    have : ¬ wdtLeft s ≤ n := by unfold wdtLeft; omega
    simp [wdtExpires, this]
  obtain ⟨r, l, f, e⟩ := timers_eq mpu noGrant atRest n
  refine ⟨r, l, f, ?_⟩
  rw [applyClocks, goesOn, if_neg Bool.false_ne_true, e, enabled, if_pos rfl]

/-- R948, R1002: clocks that reach the period reset the machine, and those left over find both timers stopped. -/
theorem applyClocks_expires {n : Nat} (enabled : s.wdt.enabled = true)
    (reached : wdtPeriod s.wdt.limit ≤ s.wdt.count + n) :
    ∃ r l f, applyClocks n s =
      { afterReset s with sys := { s.sys with wdtSeen := true }, rti := r, free := f, busLog := l } := by
  have expires : wdtExpires n s = true := by
    have : wdtLeft s ≤ n := by unfold wdtLeft; omega
    simp [wdtExpires, State.isMpu, mpu, enabled, this]
  obtain ⟨r, l, f, before⟩ := timers_eq mpu noGrant atRest (wdtLeft s)
  have reset : wdtTimeout (timers (wdtLeft s) s) =
      { afterReset s with
        sys := { s.sys with wdtSeen := true }, rti := r, free := f, busLog := .resetOut :: .wdtTimeout :: l } := by
    rw [before]
    rfl
  rw [applyClocks, expires, if_pos rfl, reset]
  obtain ⟨r', l', f', after⟩ := timers_eq
    (s := { afterReset s with
      sys := { s.sys with wdtSeen := true }, rti := r, free := f, busLog := .resetOut :: .wdtTimeout :: l })
    mpu rfl rfl (n - wdtLeft s)
  exact ⟨r', l', f', by rw [after]; simp [afterReset]⟩

end

/-- Settles O57: the step is the input alone, with the schedule used up. -/
theorem watchdogTimesOut : Obligations.WatchdogTimesOut := by
  intro s n mpu enabled noGrant atRest due
  have next := step_between s _ due
  refine ⟨fun reached => ?_, fun within => ?_⟩
  · exact ⟨_, next, applyClocks_expires (s := { s with sched := [] }) mpu noGrant atRest enabled reached⟩
  · exact ⟨_, next, applyClocks_within (s := { s with sched := [] }) mpu noGrant atRest enabled within⟩

end Sys2Proof.Proofs.Exceptions
end

section
/-! PROOFS. The nine MPU instructions (48_mpu.md): O43 to O47. -/

namespace Sys2Proof.Proofs.Mpu

open Sys2Proof Sys2Proof.Machine Sys2Proof.Claims

-- One theorem at a time, as above.
set_option Elab.async false

/-! ## The two versions (R870) -/

section

variable {s : State} (f g : State → State)

theorem mpuOrCpu_mpu (mpu : s.cfg.version = .mpu) : mpuOrCpu f g s = .next (f (advance 2 s)) := by
  simp only [mpuOrCpu, mpu]
  rfl

theorem mpuOrCpu_cpu (cpu : s.cfg.version = .cpu) : mpuOrCpu f g s = .next (onCpu g s) := by
  simp only [mpuOrCpu, cpu]

theorem onCpu_illegal (illegal : s.cfg.mpuOnCpu = .illegal) : onCpu g s = illegalTrap2 s := by
  simp only [onCpu, illegal]

theorem onCpu_absent (absent : s.cfg.mpuOnCpu = .absentEffect) : onCpu g s = g (advance 2 s) := by
  simp only [onCpu, absent]
  rfl

end

/-! ## The MMU loads and the exchange (R860 to R863) -/

theorem bufLow_get (s : State) (k : Fin 16) :
    (bufLow s).get k = high (s.mmuBuf.get k) ++ readMem s (getPair .hl s + BitVec.ofNat 16 k.val) :=
  Vector.get_ofFn _ k

theorem bufHigh_get (s : State) (k : Fin 16) :
    (bufHigh s).get k = readMem s (getPair .hl s + BitVec.ofNat 16 k.val) ++ low (s.mmuBuf.get k) :=
  Vector.get_ofFn _ k

/-- An MMU load in full: the two contexts it leaves, HL past the table, and the shadow (R869). -/
def contextsLoaded (mmu buf : MmuSet) (s : State) : State :=
  withShadow (passTable { advance 2 s with mmu := mmu, mmuBuf := buf })

theorem contextsLoaded_spec (mmu buf : MmuSet) (s : State) :
    let t := contextsLoaded mmu buf s
    Frame s t
        { s with
          reg := { s.reg with h := t.reg.h, l := t.reg.l }
          pc := s.pc + 2, mmu := t.mmu, mmuBuf := t.mmuBuf, shadow := true } ∧
      getPair .hl t = getPair .hl s + 16 ∧ t.mmu = mmu ∧ t.mmuBuf = buf :=
  ⟨⟨rfl, fun _ => rfl⟩, getPair_setPair .hl (regHl s + 16#16) _, rfl, rfl⟩

theorem exec_ldmMmu_mpu {s : State} (mpu : s.cfg.version = .mpu) :
    exec .ldmMmu s = .next (contextsLoaded s.mmu (bufLow s) s) := by
  simp only [exec, execLdmMmu, mpuOrCpu_mpu _ _ mpu]
  rfl

theorem exec_ldmMmuh_mpu {s : State} (mpu : s.cfg.version = .mpu) :
    exec .ldmMmuh s = .next (contextsLoaded s.mmu (bufHigh s) s) := by
  simp only [exec, execLdmMmuh, mpuOrCpu_mpu _ _ mpu]
  rfl

theorem exec_ldmsMmu_mpu {s : State} (mpu : s.cfg.version = .mpu) :
    exec .ldmsMmu s = .next (contextsLoaded (bufLow s) s.mmu s) := by
  simp only [exec, execLdmsMmu, mpuOrCpu_mpu _ _ mpu]
  rfl

theorem exec_swap_mpu {s : State} (mpu : s.cfg.version = .mpu) :
    exec .swap s = .next (withShadow (swapContexts (advance 2 s))) := by
  simp only [exec, execSwap, mpuOrCpu_mpu _ _ mpu]

/-- Settles O43: the reads of `bufLow` and `bufHigh` are those of the state before, whose mapping is the old one. -/
theorem mmuLoadsAndSwap : Obligations.MmuLoadsAndSwap := by
  intro s mpu
  obtain ⟨frameL, passedL, mmuL, bufL⟩ := contextsLoaded_spec s.mmu (bufLow s) s
  obtain ⟨frameH, passedH, mmuH, bufH⟩ := contextsLoaded_spec s.mmu (bufHigh s) s
  obtain ⟨frameX, passedX, mmuX, bufX⟩ := contextsLoaded_spec (bufLow s) s.mmu s
  exact ⟨⟨_, exec_ldmMmu_mpu mpu, frameL, passedL, mmuL, fun k => bufL ▸ bufLow_get s k⟩,
    ⟨_, exec_ldmMmuh_mpu mpu, frameH, passedH, mmuH, fun k => bufH ▸ bufHigh_get s k⟩,
    ⟨_, exec_ldmsMmu_mpu mpu, frameX, passedX, bufX, fun k => mmuX ▸ bufLow_get s k⟩,
    ⟨_, exec_swap_mpu mpu, ⟨rfl, fun _ => rfl⟩, rfl, rfl, rfl⟩⟩

/-! ## Bytes written at rising addresses (R864 to R866) -/

/-- The byte writes of `writeBytes`, in order. -/
def rising (la : Word) : List Byte → List (Word × Byte)
  | [] => []
  | v :: vs => (la, v) :: rising (la + 1#16) vs

theorem stores_writeBytes {s u : State} {ws : List (Word × Byte)} (hm : SameMap s u) (h : Stores .data s u ws)
    (la : Word) (vs : List Byte) : Stores .data s (writeBytes la vs u) (ws ++ rising la vs) := by
  induction vs generalizing la u ws with
  | nil => rwa [rising, List.append_nil]
  | cons v vs ih =>
    have rest := ih (sameMap_writeMem hm la v) (stores_snoc hm h la v) (la + 1#16)
    rwa [List.append_assoc] at rest

theorem storeFrame_writeBytes {t u : State} (h : StoreFrame t u) (la : Word) (vs : List Byte) :
    StoreFrame (writeBytes la vs t) u := by
  induction vs generalizing la t with
  | nil => exact h
  | cons v vs ih => exact ih (storeFrame_writeMem h .data la v) _

theorem rising_ofFn (la : Word) {n : Nat} (byte : Fin n → Byte) :
    rising la (List.ofFn byte) = (List.finRange n).map fun k => (la + BitVec.ofNat 16 k.val, byte k) := by
  induction n generalizing la with
  | zero => rfl
  | succ n ih =>
    rw [List.ofFn_succ, rising, ih, List.finRange_succ, List.map_cons, List.map_map]
    congr 1
    · simp
    · refine List.map_congr_left fun k _ => ?_
      have next : la + 1#16 + BitVec.ofNat 16 k.val = la + BitVec.ofNat 16 (k.val + 1) := by
        apply BitVec.eq_of_toNat_eq; simp; omega
      rw [next]
      rfl

theorem tableAt_eq_rising (s : State) (byte : Fin 16 → Byte) :
    Claims.tableAt s byte = rising (regHl s) (List.ofFn byte) := (rising_ofFn _ byte).symm

theorem map_toList_eq_ofFn {α β : Type} {n : Nat} (v : Vector α n) (f : α → β) :
    v.toList.map f = List.ofFn fun k => f (v.get k) := by
  apply List.ext_getElem <;> simp [Vector.get]

/-- Sixteen bytes written at HL after PC has moved past the instruction. -/
theorem writeBytes_storesTable (byte : Fin 16 → Byte) (s : State) :
    let t := writeBytes (regHl s) (List.ofFn byte) (advance 2 s)
    Stores .data s t (Claims.tableAt s byte) ∧ StoreFrame t { s with pc := s.pc + 2 } := by
  rw [tableAt_eq_rising]
  exact ⟨stores_writeBytes (sameMap_advance 2 s) (stores_advance .data 2 s) _ _,
    storeFrame_writeBytes (storeFrame_refl (advance 2 s)) _ _⟩

/-- HL past the table that has been stored, and the shadow (R869). -/
theorem passed_spec {s u : State} {ws : List (Word × Byte)} (stores : Stores .data s u ws)
    (frame : StoreFrame u { s with pc := s.pc + 2 }) :
    let t := withShadow (passTable u)
    Stores .data s t ws ∧ getPair .hl t = getPair .hl s + 16 ∧
      StoreFrame t { s with reg := { s.reg with h := t.reg.h, l := t.reg.l }, pc := s.pc + 2, shadow := true } := by
  obtain ⟨mem, sys, wp, fatal, rfl⟩ := storeFrame_iff.1 frame
  exact ⟨stores, getPair_setPair .hl (regHl s + 16#16) _, rfl⟩

/-- A store of sixteen bytes in full. -/
def tableStored (byte : Fin 16 → Byte) (s : State) : State :=
  withShadow (passTable (writeBytes (regHl s) (List.ofFn byte) (advance 2 s)))

theorem tableStored_spec (byte : Fin 16 → Byte) (s : State) :
    let t := tableStored byte s
    Stores .data s t (Claims.tableAt s byte) ∧ getPair .hl t = getPair .hl s + 16 ∧
      StoreFrame t { s with reg := { s.reg with h := t.reg.h, l := t.reg.l }, pc := s.pc + 2, shadow := true } := by
  obtain ⟨stores, frame⟩ := writeBytes_storesTable byte s
  exact passed_spec stores frame

theorem exec_ldmFromMmu_mpu {s : State} (mpu : s.cfg.version = .mpu) :
    exec .ldmFromMmu s = .next (tableStored (fun k => low (s.mmuBuf.get k)) s) := by
  simp only [exec, execLdmFromMmu, mpuOrCpu_mpu _ _ mpu]
  rw [map_toList_eq_ofFn]
  rfl

theorem exec_ldmFromMmuh_mpu {s : State} (mpu : s.cfg.version = .mpu) :
    exec .ldmFromMmuh s = .next (tableStored (fun k => high (s.mmuBuf.get k)) s) := by
  simp only [exec, execLdmFromMmuh, mpuOrCpu_mpu _ _ mpu]
  rw [map_toList_eq_ofFn]
  rfl

/-- Settles O44: the two differ in the half of each register that they store. -/
theorem mmuBufferStores : Obligations.MmuBufferStores := fun s mpu =>
  ⟨⟨_, exec_ldmFromMmu_mpu mpu, tableStored_spec _ s⟩, ⟨_, exec_ldmFromMmuh_mpu mpu, tableStored_spec _ s⟩⟩

/-! ## What the inhibited writes of a table record (R907, U8) -/

section

variable {s t : State} {ws : List (Word × Byte)}

/-- The last write of a list that is inhibited, whose address the Trap Address holds. -/
def lastInhibited (s : State) (ws : List (Word × Byte)) : Option (Word × Byte) :=
  (ws.filter fun w => writeInhibited s w.1).getLast?

theorem lastInhibited_eq_none_iff : lastInhibited s ws = none ↔ ∀ w ∈ ws, writeInhibited s w.1 = false := by
  simp [lastInhibited]

/-- The status latches after the writes. -/
def recordedSys (s : State) (own : Option (Word × Byte)) : SysStat :=
  { s.sys with
    wpTrap := s.sys.wpTrap || own.isSome
    trapLog := (own.map fun w => w.1).getD s.sys.trapLog
    trapPhys := (own.map fun w => (Machine.translate s w.1).extractLsb' 12 16).getD s.sys.trapPhys }

theorem data_traps (h : Traps .data s t ws) :
    let own := lastInhibited s ws
    t.sys = recordedSys s own ∧ t.wpPending = (s.wpPending || own.isSome) ∧ t.fatal = s.fatal := by
  unfold Traps at h
  unfold lastInhibited recordedSys
  split at h
  all_goals
    rename_i own
    obtain ⟨sys, pending, fatal⟩ := h
    simp [own, sys, pending, fatal]

/-- Data writes in full: memory, and what their traps record. -/
theorem data_stores_eq {u : State} (stores : Stores .data s t ws) (frame : StoreFrame t u) (fatal : u.fatal = s.fatal) :
    t = { u with
      mem := t.mem, sys := recordedSys s (lastInhibited s ws)
      wpPending := s.wpPending || (lastInhibited s ws).isSome } := by
  obtain ⟨sys, pending, alive⟩ := data_traps stores.2
  unfold StoreFrame at frame
  rw [← fatal] at alive
  rw [sys, pending, alive] at frame
  exact frame

end

/-! ## The System Status Block (R866, R950 to R954) -/

theorem mkByte_eq_ofNat (b7 b6 b5 b4 b3 b2 b1 b0 : Bool) :
    mkByte b7 b6 b5 b4 b3 b2 b1 b0 =
      BitVec.ofNat 8 (128 * b7.toNat + 64 * b6.toNat + 32 * b5.toNat + 16 * b4.toNat + 8 * b3.toNat + 4 * b2.toNat +
        2 * b1.toNat + b0.toNat) := by
  revert b7 b6 b5 b4 b3 b2 b1 b0; decide

theorem statusBlock_eq_ofFn (s : State) : statusBlock s = List.ofFn (Claims.blockByte s) := by
  rw [statusBlock, resetStatus, trapStatus, mkByte_eq_ofNat, mkByte_eq_ofNat]
  rfl

theorem tableInhibited_eq_false {s : State} {byte : Fin 16 → Byte}
    (none : lastInhibited s (Claims.tableAt s byte) = none) : tableInhibited s = false := by
  rw [lastInhibited_eq_none_iff] at none
  refine List.any_eq_false.2 fun k hk => ?_
  have inTable := none (regHl s + BitVec.ofNat 16 k, byte ⟨k, List.mem_range.1 hk⟩)
    (List.mem_map.2 ⟨⟨k, List.mem_range.1 hk⟩, List.mem_finRange _, rfl⟩)
  simpa using inTable

/-- What follows the sixteen writes of LDM (HL),SYS: HL past the table, the clearing, the pulse and the shadow. -/
def statusRead (ownTrap : Bool) (w : State) : State :=
  withShadow ((clearStatus ownTrap (passTable w)).emit .extStatRd)

theorem exec_ldmFromSys_mpu {s : State} (mpu : s.cfg.version = .mpu) :
    exec .ldmFromSys s = .next (statusRead (tableInhibited s)
      (writeBytes (regHl s) (List.ofFn (Claims.blockByte s)) (advance 2 s))) := by
  simp only [exec, execLdmFromSys, mpuOrCpu_mpu _ _ mpu, readStatus, statusBlock_eq_ofFn]
  rfl

/-- The clearing keeps of what the writes record the Trap Address and the pending trap. -/
theorem statusRead_spec {s w : State} {ws : List (Word × Byte)} (ownTrap : Bool) (stores : Stores .data s w ws)
    (frame : StoreFrame w { s with pc := s.pc + 2 }) :
    let t := statusRead ownTrap w
    let own := lastInhibited s ws
    Bytes s t ws ∧ getPair .hl t = getPair .hl s + 16 ∧
      t = { s with
        reg := { s.reg with h := t.reg.h, l := t.reg.l }
        pc := s.pc + 2, shadow := true, free := t.free, mem := t.mem
        busLog := .extStatRd :: s.busLog
        wpPending := s.wpPending || own.isSome
        sys :=
          { s.sys with
            fatalSeen := false, faultSeen := false, wdtSeen := false, porSeen := false
            bus1Seen := false, bus0Seen := false
            wpTrap := t.sys.wpTrap, execTrap := false, ill3Trap := false, ill2Trap := false
            dreqStat := 0, waitStat := 0
            trapLog := (own.map fun w => w.1).getD s.sys.trapLog
            trapPhys := (own.map fun w => (Machine.translate s w.1).extractLsb' 12 16).getD s.sys.trapPhys } } := by
  have written := data_stores_eq stores frame rfl
  obtain ⟨bytes, -⟩ := stores
  revert bytes
  rw [written]
  exact fun bytes => ⟨bytes, getPair_setPair .hl (regHl s + 16#16) _, rfl⟩

/-- Settles O45: the block is taken before the writes; with none of them inhibited no trap of its own survives. -/
theorem statusBlockReadAndCleared : Obligations.StatusBlockReadAndCleared := by
  intro s mpu
  obtain ⟨stores, frame⟩ := writeBytes_storesTable (Claims.blockByte s) s
  obtain ⟨bytes, passed, rest⟩ := statusRead_spec (tableInhibited s) stores frame
  refine ⟨_, exec_ldmFromSys_mpu mpu, bytes, passed, rest, fun none => ?_⟩
  rw [tableInhibited_eq_false none]
  rfl

/-! ## The watch-dog (R867, R868, R947) -/

theorem wdArm_eq (s : State) : wdArm s = { s with wdt := (wdArm s).wdt } := by
  unfold wdArm
  dsimp only
  split
  · split <;> rfl
  · rfl

theorem wdArm_runs {s : State} (runs : s.wdt.arm ≠ 0) : wdArm s = s := if_neg runs

theorem wdArm_starts {s : State} (stopped : s.wdt.arm = 0)
    (counted : s.cfg.wdtEnable = .firstWdres ∨ s.wdt.enabled = true) : (wdArm s).wdt = { s.wdt with arm := 256 } := by
  rcases counted with h | h <;> simp [wdArm, stopped, h]

theorem wdArm_enables {s : State} (stopped : s.wdt.arm = 0) (event : s.cfg.wdtEnable = .firstWdarm)
    (off : s.wdt.enabled = false) : (wdArm s).wdt = ⟨true, 0, s.pins.wdtLim, 256⟩ := by
  simp [wdArm, stopped, event, off, wdtRestart]

theorem wdRes_eq (s : State) : wdRes s = { s with wdt := (wdRes s).wdt } := by
  unfold wdRes
  split <;> rfl

theorem wdRes_ignored {s : State} (stopped : s.wdt.arm = 0) : wdRes s = s := if_pos stopped

theorem wdRes_restarts {s : State} (runs : s.wdt.arm ≠ 0) :
    (wdRes s).wdt = ⟨s.wdt.enabled || decide (s.cfg.wdtEnable = .firstWdres), 0, s.pins.wdtLim, s.wdt.arm⟩ := by
  rw [wdRes, if_neg runs]
  rfl

theorem exec_wdarm_mpu {s : State} (mpu : s.cfg.version = .mpu) : exec .wdarm s = .next (wdArm (advance 2 s)) :=
  mpuOrCpu_mpu wdArm id mpu

theorem exec_wdres_mpu {s : State} (mpu : s.cfg.version = .mpu) : exec .wdres s = .next (wdRes (advance 2 s)) :=
  mpuOrCpu_mpu wdRes id mpu

/-- Settles O46: neither writes anything but the watch-dog, whose state after it the cases give. -/
theorem watchdogArmAndReset : Obligations.WatchdogArmAndReset := by
  intro s mpu
  refine ⟨⟨_, exec_wdarm_mpu mpu, ⟨wdArm_eq (advance 2 s), fun pa => by rw [wdArm_mem]; rfl⟩, fun runs => ?_,
      wdArm_starts (s := advance 2 s), wdArm_enables (s := advance 2 s)⟩,
    ⟨_, exec_wdres_mpu mpu, ⟨wdRes_eq (advance 2 s), fun pa => by rw [wdRes_mem]; rfl⟩, fun stopped => ?_,
      wdRes_restarts (s := advance 2 s)⟩⟩
  · rw [wdArm_runs (s := advance 2 s) runs]
    rfl
  · rw [wdRes_ignored (s := advance 2 s) stopped]
    rfl

/-! ## The CPU version (R870) -/

/-- The three forms that store; beside PC's advance the other six have no effect in the CPU version. -/
def storing : List Instr := [.ldmFromMmu, .ldmFromMmuh, .ldmFromSys]

/-- Of the meanings of the nine in the CPU version there are two kinds. -/
theorem exec_mpuOpcode_cpu {i : Instr} {s : State} (cpu : s.cfg.version = .cpu)
    (opcode :
      i ∈ [Instr.ldmMmu, .ldmMmuh, .ldmsMmu, .swap, .ldmFromMmu, .ldmFromMmuh, .ldmFromSys, .wdarm, .wdres]) :
    exec i s = .next (onCpu (if i ∈ storing then storeAbsent else id) s) := by
  simp only [List.mem_cons, List.not_mem_nil, or_false] at opcode
  rcases opcode with rfl | rfl | rfl | rfl | rfl | rfl | rfl | rfl | rfl
  all_goals
    simp [exec, execLdmMmu, execLdmMmuh, execLdmsMmu, execSwap, execLdmFromMmu, execLdmFromMmuh, execLdmFromSys,
      execWdarm, execWdres, mpuOrCpu_cpu _ _ cpu, storing]

/-- Without a write-protect pin data writes store every byte and record nothing. -/
theorem cpu_data_stores {s w : State} {ws : List (Word × Byte)} (cpu : s.cfg.version = .cpu)
    (stores : Stores .data s w ws) (frame : StoreFrame w { s with pc := s.pc + 2 }) (n : Nat) :
    let t := { w with free := n }
    Bytes s t ws ∧ t = { s with pc := s.pc + 2, mem := t.mem, free := t.free } := by
  have noTrap : lastInhibited s ws = none :=
    lastInhibited_eq_none_iff.2 fun w _ => BlockCopy.writeInhibited_cpu cpu w.1
  have written := data_stores_eq stores frame rfl
  rw [noTrap, Option.isSome_none, Bool.or_false] at written
  refine ⟨stores.1, ?_⟩
  rw [written]
  simp [recordedSys]

theorem storeAbsent_advance (s : State) :
    storeAbsent (advance 2 s) =
      { writeBytes (regHl s) (List.ofFn fun k : Fin 16 => Config.freeByte (s.free + k.val)) (advance 2 s) with
        free := s.free + 16 } := rfl

theorem storeAbsent_cpu {s : State} (cpu : s.cfg.version = .cpu) :
    let t := storeAbsent (advance 2 s)
    ∃ byte, Bytes s t (Claims.tableAt s byte) ∧ t = { s with pc := s.pc + 2, mem := t.mem, free := t.free } := by
  let byte (k : Fin 16) : Byte := Config.freeByte (s.free + k.val)
  obtain ⟨stores, frame⟩ := writeBytes_storesTable byte s
  rw [storeAbsent_advance]
  exact ⟨byte, cpu_data_stores cpu stores frame _⟩

/-- Settles O47: the trap of O48, or PC's advance with the stores of `storeAbsent_cpu` or nothing. -/
theorem mpuOpcodesOnCpu : Obligations.MpuOpcodesOnCpu := by
  intro s i cpu opcode
  have meaning := exec_mpuOpcode_cpu cpu opcode
  refine ⟨fun illegal => ?_, fun absent => ?_⟩
  · rw [onCpu_illegal _ illegal] at meaning
    exact ⟨_, meaning, Exceptions.illegal2_illegalTrap2 s⟩
  · rw [onCpu_absent _ absent] at meaning
    refine ⟨_, meaning, fun stores : i ∈ storing => ?_, fun quiet : i ∉ storing => ?_⟩
    · rw [if_pos stores]
      exact storeAbsent_cpu cpu
    · rw [if_neg quiet]
      exact ⟨rfl, fun _ => rfl⟩

end Sys2Proof.Proofs.Mpu
end
